-- ==== Sys2Proof/Word.lean ====
section
/-! DEFINITION. The word types of the command interface (30_encoding.md R63, R67, R74) and of the
codeword buffer (10_state.md R21). Bits are numbered from 0 at the least significant bit (00_scope.md R9). -/

namespace Sys2Proof

/-- An 8-bit element: a field element, a codeword, an opcode or an 8-bit operand field. -/
abbrev Byte := BitVec 8

/-- A 32-bit command or response word (R63, R74). -/
abbrev Word := BitVec 32

/-- The 24-bit operand area of a command word (R63), and the 24-bit RESULT of a response word (R74). -/
abbrev Operand := BitVec 24

end Sys2Proof
end

