-- ==== Sys2Proof/Syntax.lean ====
section
/-! DEFINITION. The 18 commands of the opcode map (30_encoding.md R76), one constructor a row of
spec/opcode_table.json, with the operand fields of their formats (R66 to R72). -/

namespace Sys2Proof

/-- A decoded command. Every operand is the field of its format, but GF_EXP's, which is the integer
n = sext_24(imm24) the format gives (R69); its range is checked in WellFormed. -/
inductive Instr where
  /-- GF_EXP n (R92), format I24. -/
  | gfExp (n : Int)
  /-- GF_LOG v (R93), format B8. -/
  | gfLog (v : Byte)
  /-- BCH_FMT d (R108), format D5. -/
  | bchFmt (d : BitVec 5)
  /-- CW_WRITE idx, val (R100), format IV. -/
  | cwWrite (idx val : Byte)
  /-- CW_READ idx (R101), format B8. -/
  | cwRead (idx : Byte)
  /-- SET_DLEN n (R102), format B8. -/
  | setDlen (n : Byte)
  /-- GEN_READ j (R103), format B8. -/
  | genRead (j : Byte)
  /-- RS_ENCODE (R104), format N. -/
  | rsEncode
  /-- MATRIX_CLEAR (R117), format N. -/
  | matrixClear
  /-- PLACE_FINDERS (R118), format N. -/
  | placeFinders
  /-- PLACE_TIMING (R119), format N. -/
  | placeTiming
  /-- PLACE_ALIGN (R120), format N. -/
  | placeAlign
  /-- PLACE_FORMAT (R121), format N. -/
  | placeFormat
  /-- MOD_READ row, col (R122), format RC. -/
  | modRead (row col : Byte)
  /-- MASK_EVAL id, row, col (R129), format MRC. -/
  | maskEval (id row col : Byte)
  /-- MAP_DATA (R130), format N. -/
  | mapData
  /-- SET_MASK id (R131), format B8. -/
  | setMask (id : Byte)
  /-- REG_READ sel (R132), format B8. -/
  | regRead (sel : Byte)
  deriving DecidableEq, Repr

end Sys2Proof
end

