-- ==== Sys2Proof/WellFormed.lean ====
section
/-! DEFINITION. Which commands a command word can carry (30_encoding.md R69, R73): the one operand whose
type is wider than its field is GF_EXP's integer; every other operand's type is its field. -/

namespace Sys2Proof

/-- The range of a 24-bit two's complement integer (R69, R73). -/
def imm24InRange (n : Int) : Bool :=
  decide (-8388608 ≤ n ∧ n ≤ 8388607)

/-- A command that fits its format (R73: 'An assembler rejects a field value outside its range'). -/
def Instr.wellFormed : Instr → Bool
  | .gfExp n => imm24InRange n
  | .gfLog _ => true
  | .bchFmt _ => true
  | .cwWrite _ _ => true
  | .cwRead _ => true
  | .setDlen _ => true
  | .genRead _ => true
  | .rsEncode => true
  | .matrixClear => true
  | .placeFinders => true
  | .placeTiming => true
  | .placeAlign => true
  | .placeFormat => true
  | .modRead _ _ => true
  | .maskEval _ _ _ => true
  | .mapData => true
  | .setMask _ => true
  | .regRead _ => true

end Sys2Proof
end

