-- ==== Sys2Proof/Decode.lean ====
section
/-! DEFINITION. The decoder (30_encoding.md R64: total on every 32-bit word, opcode first, then the reserved
bits of the format) and the encoder (R73). -/

namespace Sys2Proof

/-- Why a word is ILLEGAL_COMMAND (R64, R77). -/
inductive DecodeReject where
  /-- The opcode is not one of the 18 of R76. -/
  | unassignedOpcode (opc : Byte)
  /-- The opcode is assigned and a bit its format marks reserved is 1 (R65). -/
  | reservedBitSet (opc : Byte)
  deriving DecidableEq, Repr

/-- OPC = cmd[31:24] (R63). -/
def opcField (w : Word) : Byte := w.extractLsb' 24 8

/-- The operand area cmd[23:0] (R63). -/
def operandField (w : Word) : Operand := w.extractLsb' 0 24

/-- cmd[23:16]: the mask id of format MRC; reserved in formats IV and RC (R70 to R72). -/
def byte2Field (w : Word) : Byte := w.extractLsb' 16 8

/-- cmd[15:8]: idx of format IV, row of formats RC and MRC. -/
def byte1Field (w : Word) : Byte := w.extractLsb' 8 8

/-- cmd[7:0]: b8, val or col. -/
def byte0Field (w : Word) : Byte := w.extractLsb' 0 8

/-- sext_24 (R11): the integer whose 24-bit two's complement form is the operand area. -/
def sext24 (v : Operand) : Int := v.toInt

/-- Format N (R66): all 24 operand bits reserved. -/
def formatN (w : Word) (i : Instr) : Except DecodeReject Instr :=
  if operandField w = 0 then .ok i else .error (.reservedBitSet (opcField w))

/-- Format B8 (R67): bits 23 to 8 reserved. -/
def formatB8 (w : Word) (mk : Byte → Instr) : Except DecodeReject Instr :=
  if w.extractLsb' 8 16 = 0 then .ok (mk (byte0Field w)) else .error (.reservedBitSet (opcField w))

/-- Format D5 (R68): bits 23 to 5 reserved. -/
def formatD5 (w : Word) (mk : BitVec 5 → Instr) : Except DecodeReject Instr :=
  if w.extractLsb' 5 19 = 0 then .ok (mk (w.extractLsb' 0 5)) else .error (.reservedBitSet (opcField w))

/-- Format I24 (R69): no bit reserved. -/
def formatI24 (w : Word) (mk : Int → Instr) : Except DecodeReject Instr :=
  .ok (mk (sext24 (operandField w)))

/-- Formats IV and RC (R70, R71): bits 23 to 16 reserved, two byte fields. -/
def formatTwo (w : Word) (mk : Byte → Byte → Instr) : Except DecodeReject Instr :=
  if byte2Field w = 0 then .ok (mk (byte1Field w) (byte0Field w)) else .error (.reservedBitSet (opcField w))

/-- Format MRC (R72): no bit reserved, three byte fields. -/
def formatMRC (w : Word) (mk : Byte → Byte → Byte → Instr) : Except DecodeReject Instr :=
  .ok (mk (byte2Field w) (byte1Field w) (byte0Field w))

/-- Decoding of a command word (R64, R76). -/
def decode (w : Word) : Except DecodeReject Instr :=
  match opcField w with
  | 0x01 => formatI24 w .gfExp
  | 0x02 => formatB8 w .gfLog
  | 0x08 => formatD5 w .bchFmt
  | 0x10 => formatTwo w .cwWrite
  | 0x11 => formatB8 w .cwRead
  | 0x12 => formatB8 w .setDlen
  | 0x13 => formatB8 w .genRead
  | 0x14 => formatN w .rsEncode
  | 0x20 => formatN w .matrixClear
  | 0x21 => formatN w .placeFinders
  | 0x22 => formatN w .placeTiming
  | 0x23 => formatN w .placeAlign
  | 0x24 => formatN w .placeFormat
  | 0x25 => formatTwo w .modRead
  | 0x28 => formatMRC w .maskEval
  | 0x29 => formatN w .mapData
  | 0x30 => formatB8 w .setMask
  | 0x31 => formatB8 w .regRead
  | opc => .error (.unassignedOpcode opc)

/-- OPC of a command (R76). -/
def Instr.opcode : Instr → Byte
  | .gfExp _ => 0x01
  | .gfLog _ => 0x02
  | .bchFmt _ => 0x08
  | .cwWrite _ _ => 0x10
  | .cwRead _ => 0x11
  | .setDlen _ => 0x12
  | .genRead _ => 0x13
  | .rsEncode => 0x14
  | .matrixClear => 0x20
  | .placeFinders => 0x21
  | .placeTiming => 0x22
  | .placeAlign => 0x23
  | .placeFormat => 0x24
  | .modRead _ _ => 0x25
  | .maskEval _ _ _ => 0x28
  | .mapData => 0x29
  | .setMask _ => 0x30
  | .regRead _ => 0x31

/-- The operand area of a command (R73). -/
def Instr.operand : Instr → Operand
  | .gfExp n => BitVec.ofInt 24 n
  | .gfLog v => 0#16 ++ v
  | .bchFmt d => 0#19 ++ d
  | .cwWrite idx val => 0#8 ++ idx ++ val
  | .cwRead idx => 0#16 ++ idx
  | .setDlen n => 0#16 ++ n
  | .genRead j => 0#16 ++ j
  | .rsEncode => 0
  | .matrixClear => 0
  | .placeFinders => 0
  | .placeTiming => 0
  | .placeAlign => 0
  | .placeFormat => 0
  | .modRead row col => 0#8 ++ row ++ col
  | .maskEval id row col => id ++ row ++ col
  | .mapData => 0
  | .setMask id => 0#16 ++ id
  | .regRead sel => 0#16 ++ sel

/-- The command word (OPC << 24) | operand (R73). -/
def encode (i : Instr) : Word := i.opcode ++ i.operand

/-- The command word whose bits up to `nbits` are those of `w`, numbered as the opcode table numbers them, and
whose bits above are 0: a command is one 32-bit word that crosses the interface whole, with no byte order
(20_memory.md R48; log 7). -/
def tableWord (nbits w : Nat) : Word := BitVec.ofNat 32 (w % 2 ^ nbits)

/-- The command the decoder reads from a word given in the opcode table's numbering. -/
def decodeTableWord (nbits w : Nat) : Option Instr :=
  match decode (tableWord nbits w) with
  | .ok i => some i
  | .error _ => none

end Sys2Proof
end

