-- ==== Sys2Proof/Config.lean ====
section
/-! DEFINITION. The fixed parameters of the block (00_scope.md R8, 10_state.md R32) and the values the
spec leaves open (93_implementation_defined.md I2, I3), which are opaque: no proof can see them. -/

namespace Sys2Proof

/-- Symbol version (R8, R32). -/
abbrev Config.version : Nat := 2
/-- EC-level bits of level L, 0b01 (R8, R32). -/
abbrev Config.eclBits : Nat := 1
/-- Side of the matrix (R8, R109). -/
abbrev Config.size : Nat := 25
/-- Number of EC codewords E (R8). -/
abbrev Config.ecCount : Nat := 10
/-- Length of the generator polynomial, E + 1 (R8). -/
abbrev Config.genLen : Nat := 11
/-- Data capacity in codewords (R8). -/
abbrev Config.dcap : Nat := 34
/-- Length of the codeword buffer, DCAP + E (R8). -/
abbrev Config.cwLen : Nat := 44
/-- The field's reduction constant, x^8 + x^4 + x^3 + x^2 + 1 (R8, R83). -/
abbrev Config.prim : Nat := 285
/-- The BCH generator (R8, R106). -/
abbrev Config.g15 : Nat := 0b10100110111
/-- The format mask (R8, R106). -/
abbrev Config.fmask : Nat := 0b101010000010010
/-- MASK after reset (R8, R27). -/
abbrev Config.maskAtReset : Nat := 7
/-- Centre row and column of the alignment pattern (R8, R113). -/
abbrev Config.alignCentre : Nat := 18

/-- LOG[0], whose content is unspecified and which no command reads (10_state.md R19, 93 I2).
DESIGN CHOICE: a free value (log 4). Safe. -/
opaque Config.logOfZero : Byte

/-- The content of codeword entry `entry` after reset number `resetNo`, which is unspecified and kept until
the entry is written (10_state.md R21, 93 I3). DESIGN CHOICE: a free value, fresh at every reset (log 3). Safe. -/
opaque Config.cwUnspecified (resetNo entry : Nat) : Byte

end Sys2Proof
end

