-- ==== Sys2Proof/Machine/State.lean ====
section
/-! DEFINITION. The state of the block (10_state.md R21 to R31), the host interface's two sides that a step reads
and writes (20_memory.md R61), and the state after reset (70_reset_and_hazards.md R161). -/

namespace Sys2Proof.Machine

/-- Why a step could stop with a fault. There is no constructor: 'No error stops the block' (60_exceptions.md
R151), every error is the response of the command that caused it (R152), and the block has no address or
permission that could fault (20_memory.md R53). Nobody raises one; safe (log 8). -/
inductive Fault
  deriving DecidableEq, Repr

/-- Why a step could be refused. -/
inductive Refusal where
  /-- The instruction has no meaning in the model yet. Raised only by exec's own arms for such an instruction;
  no arm raises it in this model. Safe. -/
  | notModelled (mnemonic : String)
  deriving DecidableEq, Repr

/-- A cell of the symbol matrix (R25). -/
inductive CellState where
  | unset
  | light
  | dark
  deriving DecidableEq, Repr

/-- The status codes a response can carry (60_exceptions.md R142); their numbers are `Status.code`. -/
inductive Status where
  | ok
  | illegalCommand
  | badOperand
  | sequenceError
  | invalidMaskPattern
  | logOfZero
  | symbolInvalid
  deriving DecidableEq, Repr

/-- What the host does to the block between two steps (R61, R160): issue a command word, or assert reset. -/
inductive HostEvent where
  | command (w : Word)
  | reset
  deriving DecidableEq, Repr

/-- The symbol matrix: 25 rows of 25 cells, row 0 at the top, column 0 at the left (R12, R25). -/
abbrev Grid := Vector (Vector CellState 25) 25

/-- The codeword buffer: 44 entries of 8 bits (R21). -/
abbrev Codewords := Vector Byte 44

/-- The five construction flags FLAGS[4:0] (R29). VALID is computed, not stored (R30). -/
structure Flags where
  /-- FIND, bit 0: set by a successful PLACE_FINDERS. -/
  find : Bool
  /-- TIM, bit 1: set by a successful PLACE_TIMING. -/
  tim : Bool
  /-- ALN, bit 2: set by a successful PLACE_ALIGN. -/
  aln : Bool
  /-- FMTP, bit 3: set by a successful PLACE_FORMAT. -/
  fmtp : Bool
  /-- MAP, bit 4: set by a successful MAP_DATA. -/
  map : Bool
  deriving DecidableEq, Repr

/-- The state of the block, then the model's own three fields for its interface. -/
structure State where
  /-- CW (R21). -/
  cw : Codewords
  /-- DLEN, 0..34 in 6 bits (R22). -/
  dlen : BitVec 6
  /-- ECLEN, 0 or 10 in 4 bits (R23). -/
  eclen : BitVec 4
  /-- M (R25). -/
  m : Grid
  /-- MASK (R27). -/
  mask : Byte
  /-- FMT (R28). -/
  fmt : BitVec 15
  /-- FLAGS (R29). -/
  flags : Flags
  /-- SYMERR (R31). -/
  symerr : Byte
  /-- The model's own (log 1): the host's commands and resets not yet taken, oldest first. -/
  pending : List HostEvent
  /-- The model's own (log 1): the response word of the last command since reset, R74. -/
  response : Option Word
  /-- The model's own (log 3): how many reset events have been taken; selects the unspecified CW contents. -/
  resets : Nat
  deriving DecidableEq, Repr

/-- No flag set. -/
def Flags.clear : Flags := ⟨false, false, false, false, false⟩

/-- The matrix with every cell Unset (R25). -/
def Grid.allUnset : Grid := Vector.replicate 25 (Vector.replicate 25 .unset)

/-- The unspecified buffer contents after reset number `n` (R21; log 3): entry i holds `Config.cwUnspecified n i`. -/
def Codewords.unspecified (n : Nat) : Codewords :=
  ⟨⟨(List.range 44).map (Config.cwUnspecified n)⟩, by simp⟩

/-- The state after reset (70_reset_and_hazards.md R161). -/
def State.reset : State where
  cw := Codewords.unspecified 0
  dlen := 0
  eclen := 0
  m := Grid.allUnset
  mask := 7
  fmt := 0
  flags := Flags.clear
  symerr := 0
  pending := []
  response := none
  resets := 0

end Sys2Proof.Machine
end

