-- ==== Sys2Proof/Machine/Ops.lean ====
section
/-! DEFINITION. The named operations over the state: one update per field, the index-space reads and writes of CW
and M, the response word (30_encoding.md R74), and what stands for taking an exception in this block: `raise` and
`fail` (00_scope.md R11, 60_exceptions.md R146, R149, R152). There is no trap return (R152). -/

namespace Sys2Proof.Machine

/-! ### One update per field -/

def State.setCw (s : State) (v : Codewords) : State := { s with cw := v }
def State.setDlen (s : State) (v : BitVec 6) : State := { s with dlen := v }
def State.setEclen (s : State) (v : BitVec 4) : State := { s with eclen := v }
def State.setM (s : State) (v : Grid) : State := { s with m := v }
def State.setMask (s : State) (v : Byte) : State := { s with mask := v }
def State.setFmt (s : State) (v : BitVec 15) : State := { s with fmt := v }
def State.setFlags (s : State) (v : Flags) : State := { s with flags := v }
def State.setSymerr (s : State) (v : Byte) : State := { s with symerr := v }
def State.setPending (s : State) (v : List HostEvent) : State := { s with pending := v }
def State.setResponse (s : State) (v : Option Word) : State := { s with response := v }

/-! ### The response (R74) and the status codes (R142) -/

/-- The code of a status (R142). -/
def Status.code : Status → Byte
  | .ok => 0x00
  | .illegalCommand => 0x01
  | .badOperand => 0x02
  | .sequenceError => 0x03
  | .invalidMaskPattern => 0x04
  | .logOfZero => 0x05
  | .symbolInvalid => 0x06

/-- The response word [31:24] STATUS | [23:0] RESULT (R74). -/
def responseWord (st : Status) (result : Operand) : Word := st.code ++ result

/-- respond(st, result) (R11, R74): the command ends, and its response word is `responseWord st result`. -/
def respond (st : Status) (result : Operand) (s : State) : Host.Outcome State Fault Refusal :=
  .next (s.setResponse (some (responseWord st result)))

/-- raise st (R11, R149): the command ends with respond(st, 0) and changes nothing. -/
def raise (st : Status) (s : State) : Host.Outcome State Fault Refusal := respond st 0 s

/-- fail st (R11, R146): SYMERR <- st, then respond(st, 0); nothing else changes. -/
def fail (st : Status) (s : State) : Host.Outcome State Fault Refusal := respond st 0 (s.setSymerr st.code)

/-- ILLEGAL_COMMAND (R65, R77, R144): not executed, no state change, SYMERR not written. -/
def illegalCommand (s : State) : Host.Outcome State Fault Refusal := raise .illegalCommand s

/-- The common head of the five construction commands (R145 to R148): SYMBOL_INVALID while SYMERR is not 0, then
the sticky SEQUENCE_ERROR when the command's own guard does not hold, then the command's body. -/
def construct (guardHolds : Bool) (body : State → Host.Outcome State Fault Refusal) (s : State) :
    Host.Outcome State Fault Refusal :=
  if s.symerr ≠ 0 then raise .symbolInvalid s
  else if guardHolds = false then fail .sequenceError s
  else body s

/-! ### The codeword buffer (R21) -/

/-- CW[i]. Every read the block makes has i in 0..43 (R47); the value past the end is never seen from a state with
DLEN at most 34 (log 9). -/
def readCw (v : Codewords) (i : Nat) : Byte := (v[i]?).getD 0

/-- CW[i] <- b. Every write the block makes has i in 0..43 (R47); past the end nothing is written (log 9). -/
def writeCw (v : Codewords) (i : Nat) (b : Byte) : Codewords := v.setIfInBounds i b

/-- for k in 0 .. len(bs)-1: CW[at+k] <- bs[k] (R104). -/
def writeCwFrom (v : Codewords) (at' : Nat) : List Byte → Codewords
  | [] => v
  | b :: bs => writeCwFrom (writeCw v at' b) (at' + 1) bs

/-! ### The symbol matrix (R25) -/

/-- M[r][c]. Every read the block makes has r and c in 0..24 (R47). -/
def readCell (m : Grid) (r c : Nat) : CellState := ((m[r]?).bind fun row => row[c]?).getD .unset

/-- M[r][c] <- x. Every write the block makes has r and c in 0..24 (R47). -/
def writeCell (m : Grid) (r c : Nat) (x : CellState) : Grid :=
  if h : r < 25 then m.set r (m[r].setIfInBounds c x) else m

/-- One cell write: row, column and the state stored. -/
abbrev CellWrite := Nat × Nat × CellState

/-- The writes of a placement, in order (R111 to R115). -/
def placeCells (m : Grid) : List CellWrite → Grid
  | [] => m
  | w :: ws => placeCells (writeCell m w.1 w.2.1 w.2.2) ws

/-- cell(b) (R13): 1 is Dark, 0 is Light. -/
def cellOf (b : Bool) : CellState := if b then .dark else .light

/-- code(s) (R26): 0 Unset, 1 Light, 2 Dark. -/
def cellCode : CellState → BitVec 2
  | .unset => 0
  | .light => 1
  | .dark => 2

/-! ### The host's side (R54, R57, R61, R160) -/

/-- The oldest host event not yet taken, and the state without it; none when the host has issued nothing. -/
def nextEvent (s : State) : Option (HostEvent × State) :=
  match s.pending with
  | [] => none
  | e :: rest => some (e, s.setPending rest)

/-- Between commands the block holds its state unchanged (60_exceptions.md R158). -/
def idle (s : State) : Host.Outcome State Fault Refusal := .next s

/-- The reset event (70_reset_and_hazards.md R160, R161): no response, the reset state, with fresh unspecified
contents of CW; what the host has still to issue stays (log 2, 3). -/
def takeReset (s : State) : Host.Outcome State Fault Refusal :=
  .next { State.reset with
    cw := Codewords.unspecified (s.resets + 1)
    pending := s.pending
    resets := s.resets + 1 }

/-- The word `w` put where the block takes its next command: in front of the host's other events (log 10). -/
def placeNextCommand (s : State) (w : Word) : State := s.setPending (.command w :: s.pending)

end Sys2Proof.Machine
end

