-- ==== Sys2Proof/Machine/Operands.lean ====
section
/-! DEFINITION. The operand forms: the index spaces' ranges (20_memory.md R46, R47; 60_exceptions.md R144) and the
zero extension of results (30_encoding.md R74, R75). The fields themselves, sext_24 among them, are in Decode. -/

namespace Sys2Proof.Machine

/-- A CW index 0..43 (R46, R144). -/
def cwIndexInRange (idx : Byte) : Bool := decide (idx.toNat ≤ 43)

/-- A data length 0..34 (R102, R144). -/
def dlenInRange (n : Byte) : Bool := decide (n.toNat ≤ 34)

/-- A GEN index 0..10 (R46, R144). -/
def genIndexInRange (j : Byte) : Bool := decide (j.toNat ≤ 10)

/-- A row and column 0..24 (R46, R144). -/
def cellInRange (row col : Byte) : Bool := decide (row.toNat ≤ 24 ∧ col.toNat ≤ 24)

/-- A register selector 0x00..0x0B (R33, R144). -/
def selectorInRange (sel : Byte) : Bool := decide (sel.toNat ≤ 0x0B)

/-- A mask id that has a formula, 0..7 (R27, R123). -/
def maskIdInRange (id : Byte) : Bool := decide (id.toNat ≤ 7)

/-- zext (R11): a value of any width zero-extended to the 24-bit RESULT (R74). -/
def zext {n : Nat} (v : BitVec n) : Operand := v.setWidth 24

/-- A non-negative integer as a RESULT; every use is below 2^24. -/
def resultOfNat (n : Nat) : Operand := BitVec.ofNat 24 n

/-- A boolean as a RESULT (R10: true = 1, false = 0). -/
def resultOfBool (b : Bool) : Operand := if b then 1 else 0

end Sys2Proof.Machine
end

