-- ==== Sys2Proof/Machine/BchFormat.lean ====
section
/-! DEFINITION. The BCH(15,5) format function (42_bch_format.md R105, R106) and the command BCH_FMT (R108). -/

namespace Sys2Proof.Machine

/-- bitlen (R10): the position of the highest set bit plus 1, and 0 for 0. -/
def bitlen (v : Nat) : Nat := if v = 0 then 0 else Nat.log2 v + 1

/-- The loop of R106: while bitlen(b) - 1 >= 10, b <- b xor (G15 << (bitlen(b) - 11)). Each turn clears the top set
bit of b, so 15 turns are enough for a 15-bit b; `fuel` only bounds the recursion. -/
def bchReduce : Nat → Nat → Nat
  | 0, b => b
  | fuel + 1, b => if bitlen b ≥ 11 then bchReduce fuel (b ^^^ (Config.g15 <<< (bitlen b - 11))) else b

/-- bchFormat(d) (R106): ((d << 10) or b) xor FMASK, with b the 10-bit remainder. -/
def bchFormat (d : Nat) : BitVec 15 :=
  BitVec.ofNat 15 (((d <<< 10) ||| bchReduce 15 (d <<< 10)) ^^^ Config.fmask)

/-- The descriptor of this block, (ECLBITS << 3) or MASK (R105). -/
def formatDescriptor (mask : Byte) : Nat := (Config.eclBits <<< 3) ||| mask.toNat

/-- BCH_FMT (R108): respond(OK, zext(bchFormat(d))); FMT is not written. -/
def execBchFmt (d : BitVec 5) (s : State) : Host.Outcome State Fault Refusal :=
  respond .ok (zext (bchFormat d.toNat)) s

end Sys2Proof.Machine
end

