-- ==== Sys2Proof/Machine/Flags.lean ====
section
/-! DEFINITION. The flag computations: the FLAGS register with the computed bit VALID (10_state.md R29, R30, R33)
and the guards that read the flags (60_exceptions.md R145). -/

namespace Sys2Proof.Machine

def Flags.setFind (f : Flags) : Flags := { f with find := true }
def Flags.setTim (f : Flags) : Flags := { f with tim := true }
def Flags.setAln (f : Flags) : Flags := { f with aln := true }
def Flags.setFmtp (f : Flags) : Flags := { f with fmtp := true }
def Flags.setMap (f : Flags) : Flags := { f with map := true }

/-- VALID (R30): 1 exactly when MAP = 1 and SYMERR = 0. -/
def validBit (f : Flags) (symerr : Byte) : Bool := f.map && symerr == 0

/-- A bit moved to position `k`. -/
def bitAt (b : Bool) (k : Nat) : Operand := if b then (1#24) <<< k else 0

/-- reg(0x00) (R132): FIND | TIM<<1 | ALN<<2 | FMTP<<3 | MAP<<4 | VALID<<5. -/
def flagsWord (f : Flags) (symerr : Byte) : Operand :=
  bitAt f.find 0 ||| bitAt f.tim 1 ||| bitAt f.aln 2 ||| bitAt f.fmtp 3 ||| bitAt f.map 4 |||
    bitAt (validBit f symerr) 5

/-- Any construction flag set: SET_MASK's guard (R131). -/
def Flags.any (f : Flags) : Bool := f.find || f.tim || f.aln || f.fmtp || f.map

/-- All four patterns placed and not yet mapped: MAP_DATA's guard (R130, R145). -/
def Flags.readyToMap (f : Flags) : Bool := f.find && f.tim && f.aln && f.fmtp && !f.map

end Sys2Proof.Machine
end

