-- ==== Sys2Proof/Machine/Control.lean ====
section
/-! DEFINITION. The control commands SET_MASK (45_control.md R131) and REG_READ (R132, 10_state.md R33). -/

namespace Sys2Proof.Machine

/-- reg(sel) (R33, R132), for sel in 0x00..0x0B; REG_READ's range check keeps the last line from being reached. -/
def registerValue (s : State) (sel : Byte) : Operand :=
  match sel with
  | 0x00 => flagsWord s.flags s.symerr
  | 0x01 => zext s.mask
  | 0x02 => zext s.dlen
  | 0x03 => zext s.eclen
  | 0x04 => zext s.fmt
  | 0x05 => zext s.symerr
  | 0x06 => resultOfNat Config.version
  | 0x07 => resultOfNat Config.eclBits
  | 0x08 => resultOfNat Config.size
  | 0x09 => resultOfNat Config.dcap
  | 0x0A => resultOfNat Config.ecCount
  | 0x0B => resultOfNat Config.genLen
  | _ => 0

/-- SET_MASK (R131): SEQUENCE_ERROR (not sticky) when any construction flag is set, else MASK <- id, any byte. -/
def execSetMask (id : Byte) (s : State) : Host.Outcome State Fault Refusal :=
  if s.flags.any then raise .sequenceError s else respond .ok 0 (s.setMask id)

/-- REG_READ (R132). -/
def execRegRead (sel : Byte) (s : State) : Host.Outcome State Fault Refusal :=
  if selectorInRange sel then respond .ok (registerValue s sel) s else raise .badOperand s

end Sys2Proof.Machine
end

