-- ==== Sys2Proof/Machine/DataMapper.lean ====
section
/-! DEFINITION. The mask formulas (44_data_mapper.md R123), the bit stream (R124), the zig-zag traversal (R125, R126)
and the commands MASK_EVAL (R129) and MAP_DATA (R130). -/

namespace Sys2Proof.Machine

/-- maskfn(id, row, col) (R123), for id in 0..7. Every use is guarded by id at most 7; the last line is not reached. -/
def maskFn (id row col : Nat) : Bool :=
  match id with
  | 0 => (row + col) % 2 == 0
  | 1 => row % 2 == 0
  | 2 => col % 3 == 0
  | 3 => (row + col) % 3 == 0
  | 4 => (row / 2 + col / 3) % 2 == 0
  | 5 => (row * col) % 2 + (row * col) % 3 == 0
  | 6 => ((row * col) % 2 + (row * col) % 3) % 2 == 0
  | 7 => ((row * col) % 3 + (row + col) % 2) % 2 == 0
  | _ => false

/-- S = 8 * (DLEN + ECLEN), the number of stream bits (R124). -/
def streamBits (s : State) : Nat := 8 * (s.dlen.toNat + s.eclen.toNat)

/-- streamBit(k) (R124): most significant bit first within each codeword, and 0 from S on. -/
def streamBit (s : State) (k : Nat) : Bool :=
  if k < streamBits s then (readCw s.cw (k / 8)).getLsbD (7 - k % 8) else false

/-- The column pairs of R125 from `col` on, each by its right column and its direction; column 6 is stepped over.
`fuel` only bounds the recursion: col falls by at least 2 at each turn. -/
def columnPairs : Nat → Nat → Bool → List (Nat × Bool)
  | 0, _, _ => []
  | fuel + 1, col, upward =>
    if col = 0 then []
    else
      let right := if col = 6 then 5 else col
      (right, upward) :: columnPairs fuel (right - 2) (!upward)

/-- The rows of one pass: from the bottom up, or from the top down (R125). -/
def passRows (upward : Bool) : List Nat :=
  if upward then (List.range Config.size).reverse else List.range Config.size

/-- The cells of one column pair in visiting order: at each row the right column first (R125). -/
def pairCells (p : Nat × Bool) : List (Nat × Nat) :=
  (passRows p.2).flatMap fun r => [(r, p.1), (r, p.1 - 1)]

/-- Every cell the traversal visits, in order, before the Unset test (R125). -/
def visitOrder : List (Nat × Nat) := (columnPairs Config.size (Config.size - 1) true).flatMap pairCells

/-- MAP_DATA's loop over the cells still to visit, with k cells yielded so far (R125, R126, R130): an Unset cell gets
cell(streamBit(k) xor maskfn(MASK, r, c)) and k goes up; any other cell is skipped. -/
def mapLoop (bit : Nat → Bool) (mask : Nat) : List (Nat × Nat) → Grid → Nat → Grid × Nat
  | [], m, k => (m, k)
  | p :: ps, m, k =>
    if readCell m p.1 p.2 = .unset then
      mapLoop bit mask ps (writeCell m p.1 p.2 (cellOf (bit k ^^ maskFn mask p.1 p.2))) (k + 1)
    else mapLoop bit mask ps m k

/-- MASK_EVAL (R129): INVALID_MASK_PATTERN (not sticky) when id > 7, else the formula's value. -/
def execMaskEval (id row col : Byte) (s : State) : Host.Outcome State Fault Refusal :=
  if maskIdInRange id then respond .ok (resultOfBool (maskFn id.toNat row.toNat col.toNat)) s
  else raise .invalidMaskPattern s

/-- MAP_DATA (R130): fills every Unset cell, seals the matrix, RESULT k - min(k, S), the number of remainder cells. -/
def execMapData (s : State) : Host.Outcome State Fault Refusal :=
  construct s.flags.readyToMap
    (fun t =>
      if maskIdInRange t.mask then
        let done := mapLoop (streamBit t) t.mask.toNat visitOrder t.m 0
        respond .ok (resultOfNat (done.2 - min done.2 (streamBits t)))
          ((t.setM done.1).setFlags t.flags.setMap)
      else fail .invalidMaskPattern t) s

end Sys2Proof.Machine
end

