-- ==== Sys2Proof/Machine/GaloisField.lean ====
section
/-! DEFINITION. The field functions (40_galois_field.md R88, R89, R91) and the commands GF_EXP (R92) and GF_LOG (R93). -/

namespace Sys2Proof.Machine

/-- exp(n) (R88): EXP[((n % 255) + 255) % 255], with % the truncated remainder (R10). -/
def gfExp (n : Int) : Byte := expEntry (Int.tmod (Int.tmod n 255 + 255) 255).toNat

/-- gfmul (R91): 0 when a factor is 0, else exp(log(a) + log(b)). No command computes it directly. -/
def gfMul (a b : Byte) : Byte :=
  if a = 0 ∨ b = 0 then 0 else gfExp ((logEntry a).toNat + (logEntry b).toNat : Nat)

/-- GF_EXP (R92): respond(OK, zext(exp(n))). -/
def execGfExp (n : Int) (s : State) : Host.Outcome State Fault Refusal :=
  respond .ok (zext (gfExp n)) s

/-- GF_LOG (R93): LOG_OF_ZERO when v = 0, else respond(OK, zext(LOG[v])). -/
def execGfLog (v : Byte) (s : State) : Host.Outcome State Fault Refusal :=
  if v = 0 then raise .logOfZero s else respond .ok (zext (logEntry v)) s

end Sys2Proof.Machine
end

