-- ==== Sys2Proof/Machine/ReedSolomon.lean ====
section
/-! DEFINITION. The Reed-Solomon function (41_reed_solomon.md R95, R96, R98) and the codeword-buffer commands CW_WRITE
(R100), CW_READ (R101), SET_DLEN (R102), GEN_READ (R103) and RS_ENCODE (R104). -/

namespace Sys2Proof.Machine

/-- The log of a leading coefficient: 0 for the field zero (R96), so that LOG[0] is never read. -/
def leadLog (lead : Byte) : Nat := if lead = 0 then 0 else (logEntry lead).toNat

/-- r[i+j] <- r[i+j] xor exp(GEN[j] + L) (R95). -/
def rsXorTerm (i l : Nat) (r : List Byte) (j : Nat) : List Byte :=
  r.set (i + j) (r.getD (i + j) 0 ^^^ gfExp ((genEntry j).toNat + l : Nat))

/-- One iteration of the outer loop of R95: the leading coefficient is read once, then j runs over 0..E. -/
def rsIteration (r : List Byte) (i : Nat) : List Byte :=
  (List.range Config.genLen).foldl (rsXorTerm i (leadLog (r.getD i 0))) r

/-- The working buffer r after the N iterations of R95. -/
def rsBuffer (d : List Byte) : List Byte :=
  (List.range d.length).foldl rsIteration (d ++ List.replicate Config.ecCount 0)

/-- rsEncode (R95): r[N..N+E-1], and the empty sequence for the empty sequence (R98). -/
def rsEncode (d : List Byte) : List Byte :=
  if d.length = 0 then [] else ((rsBuffer d).drop d.length).take Config.ecCount

/-- The data segment CW[0..n-1] (R24). -/
def dataSegment (v : Codewords) (n : Nat) : List Byte := (List.range n).map (readCw v)

/-- CW_WRITE (R100). -/
def execCwWrite (idx val : Byte) (s : State) : Host.Outcome State Fault Refusal :=
  if cwIndexInRange idx then respond .ok 0 (s.setCw (writeCw s.cw idx.toNat val)) else raise .badOperand s

/-- CW_READ (R101). -/
def execCwRead (idx : Byte) (s : State) : Host.Outcome State Fault Refusal :=
  if cwIndexInRange idx then respond .ok (zext (readCw s.cw idx.toNat)) s else raise .badOperand s

/-- SET_DLEN (R102): DLEN <- n, ECLEN <- 0. -/
def execSetDlen (n : Byte) (s : State) : Host.Outcome State Fault Refusal :=
  if dlenInRange n then respond .ok 0 ((s.setDlen (n.setWidth 6)).setEclen 0) else raise .badOperand s

/-- GEN_READ (R103). -/
def execGenRead (j : Byte) (s : State) : Host.Outcome State Fault Refusal :=
  if genIndexInRange j then respond .ok (zext (genEntry j.toNat)) s else raise .badOperand s

/-- RS_ENCODE (R104): the EC bytes of CW[0..DLEN-1] go to CW[DLEN..], ECLEN <- their number, RESULT ECLEN. -/
def execRsEncode (s : State) : Host.Outcome State Fault Refusal :=
  let ec := rsEncode (dataSegment s.cw s.dlen.toNat)
  let eclen := BitVec.ofNat 4 ec.length
  respond .ok (zext eclen) ((s.setCw (writeCwFrom s.cw s.dlen.toNat ec)).setEclen eclen)

end Sys2Proof.Machine
end

