-- ==== Sys2Proof/Machine/SymbolMatrix.lean ====
section
/-! DEFINITION. The structural patterns (43_symbol_matrix.md R110 to R115) and the commands MATRIX_CLEAR (R117),
PLACE_FINDERS (R118), PLACE_TIMING (R119), PLACE_ALIGN (R120), PLACE_FORMAT (R121) and MOD_READ (R122). -/

namespace Sys2Proof.Machine

/-- The finder template T[r][c] (R110). -/
def finderTemplate (r c : Nat) : CellState :=
  if r ≤ 6 ∧ c ≤ 6 ∧ (r = 0 ∨ r = 6 ∨ c = 0 ∨ c = 6 ∨ (2 ≤ r ∧ r ≤ 4 ∧ 2 ≤ c ∧ c ≤ 4)) then .dark else .light

/-- The writes of R111: T at the top left, with columns mirrored at the top right, with rows mirrored at the
bottom left. -/
def finderWrites : List CellWrite :=
  (List.range 8).flatMap fun r => (List.range 8).flatMap fun c =>
    [(r, c, finderTemplate r c), (r, Config.size - 1 - c, finderTemplate r c),
      (Config.size - 1 - r, c, finderTemplate r c)]

/-- The writes of R112: row 6 and column 6, indices 8..16, cell((i + 1) and 1). -/
def timingWrites : List CellWrite :=
  (List.range' 8 9).flatMap fun i =>
    [(6, i, cellOf ((i + 1) % 2 == 1)), (i, 6, cellOf ((i + 1) % 2 == 1))]

/-- max(|dr|, |dc|) with dr = a - 2 and dc = b - 2: the ring number of a cell of the 5x5 block. -/
def alignRing (a b : Nat) : Nat := max (Int.natAbs ((a : Int) - 2)) (Int.natAbs ((b : Int) - 2))

/-- The writes of R113: rows and columns 16..20, Light exactly on the ring max(|dr|, |dc|) = 1. -/
def alignWrites : List CellWrite :=
  (List.range 5).flatMap fun a => (List.range 5).map fun b =>
    (Config.alignCentre - 2 + a, Config.alignCentre - 2 + b, if alignRing a b = 1 then .light else .dark)

/-- A(i) (R114): the cell of format bit i around the top-left finder. -/
def formatCellA (i : Nat) : Nat × Nat :=
  if i ≤ 5 then (i, 8) else if i ≤ 7 then (i + 1, 8) else if i = 8 then (8, 15 - i) else (8, 14 - i)

/-- B(i) (R114): the cell of format bit i at the top right or bottom left. -/
def formatCellB (i : Nat) : Nat × Nat :=
  if i ≤ 7 then (8, Config.size - 1 - i) else (Config.size - 15 + i, 8)

/-- The writes of R114 and R115: both copies of the format value f, then the dark module (17, 8). -/
def formatWrites (f : BitVec 15) : List CellWrite :=
  ((List.range 15).flatMap fun i =>
    [((formatCellA i).1, (formatCellA i).2, cellOf (f.getLsbD i)),
      ((formatCellB i).1, (formatCellB i).2, cellOf (f.getLsbD i))]) ++
  [(Config.size - 8, 8, .dark)]

/-- MATRIX_CLEAR (R117): every cell Unset, FLAGS, FMT and SYMERR cleared; it succeeds in every state. -/
def execMatrixClear (s : State) : Host.Outcome State Fault Refusal :=
  respond .ok 0 ((((s.setM Grid.allUnset).setFlags Flags.clear).setFmt 0).setSymerr 0)

/-- PLACE_FINDERS (R118). -/
def execPlaceFinders (s : State) : Host.Outcome State Fault Refusal :=
  construct (!s.flags.find)
    (fun t => respond .ok 0 ((t.setM (placeCells t.m finderWrites)).setFlags t.flags.setFind)) s

/-- PLACE_TIMING (R119). -/
def execPlaceTiming (s : State) : Host.Outcome State Fault Refusal :=
  construct (!s.flags.tim)
    (fun t => respond .ok 0 ((t.setM (placeCells t.m timingWrites)).setFlags t.flags.setTim)) s

/-- PLACE_ALIGN (R120). -/
def execPlaceAlign (s : State) : Host.Outcome State Fault Refusal :=
  construct (!s.flags.aln)
    (fun t => respond .ok 0 ((t.setM (placeCells t.m alignWrites)).setFlags t.flags.setAln)) s

/-- PLACE_FORMAT (R121): the sticky INVALID_MASK_PATTERN when MASK > 7, else both copies of
bchFormat((ECLBITS << 3) or MASK) and the dark module, FMT and FMTP written, RESULT the value placed. -/
def execPlaceFormat (s : State) : Host.Outcome State Fault Refusal :=
  construct (!s.flags.fmtp)
    (fun t =>
      if maskIdInRange t.mask then
        let f := bchFormat (formatDescriptor t.mask)
        respond .ok (zext f) (((t.setM (placeCells t.m (formatWrites f))).setFmt f).setFlags t.flags.setFmtp)
      else fail .invalidMaskPattern t) s

/-- MOD_READ (R122): BAD_OPERAND first, then SYMBOL_INVALID while SYMERR is not 0, else the cell's code. -/
def execModRead (row col : Byte) (s : State) : Host.Outcome State Fault Refusal :=
  if cellInRange row col = false then raise .badOperand s
  else if s.symerr ≠ 0 then raise .symbolInvalid s
  else respond .ok (zext (cellCode (readCell s.m row.toNat col.toNat))) s

end Sys2Proof.Machine
end

