-- ==== Sys2Proof/Machine/Dispatch.lean ====
section
/-! DEFINITION. The meaning of each command: one arm per constructor (30_encoding.md R76). -/

namespace Sys2Proof.Machine

def exec (i : Instr) (s : State) : Host.Outcome State Fault Refusal :=
  match i with
  | .gfExp n => Sys2Proof.Machine.execGfExp n s
  | .gfLog v => Sys2Proof.Machine.execGfLog v s
  | .bchFmt d => Sys2Proof.Machine.execBchFmt d s
  | .cwWrite idx val => Sys2Proof.Machine.execCwWrite idx val s
  | .cwRead idx => Sys2Proof.Machine.execCwRead idx s
  | .setDlen n => Sys2Proof.Machine.execSetDlen n s
  | .genRead j => Sys2Proof.Machine.execGenRead j s
  | .rsEncode => Sys2Proof.Machine.execRsEncode s
  | .matrixClear => Sys2Proof.Machine.execMatrixClear s
  | .placeFinders => Sys2Proof.Machine.execPlaceFinders s
  | .placeTiming => Sys2Proof.Machine.execPlaceTiming s
  | .placeAlign => Sys2Proof.Machine.execPlaceAlign s
  | .placeFormat => Sys2Proof.Machine.execPlaceFormat s
  | .modRead row col => Sys2Proof.Machine.execModRead row col s
  | .maskEval id row col => Sys2Proof.Machine.execMaskEval id row col s
  | .mapData => Sys2Proof.Machine.execMapData s
  | .setMask id => Sys2Proof.Machine.execSetMask id s
  | .regRead sel => Sys2Proof.Machine.execRegRead sel s

end Sys2Proof.Machine
end

