-- ==== Sys2Proof/Machine/Step.lean ====
section
/-! DEFINITION. One step of the machine (10_state.md R16, 20_memory.md R54 to R57, 70_reset_and_hazards.md R160): the
block takes the oldest host event; a command word is decoded and executed to completion, a reset puts the reset state,
and with nothing to take the state is held (60_exceptions.md R158). -/

namespace Sys2Proof.Machine

/-- One step. -/
def step (s : State) : Host.Outcome State Fault Refusal :=
  match nextEvent s with
  | none => idle s
  | some (.reset, t) => takeReset t
  | some (.command w, t) =>
    match decode w with
    | .ok i => exec i t
    | .error _ => illegalCommand t

/-- The state with the given word (in the opcode table's numbering) as the next command the block takes. -/
def State.withFetchWord (s : State) (nbits w : Nat) : State := placeNextCommand s (tableWord nbits w)

end Sys2Proof.Machine
end

