-- ==== Sys2Proof/Machine/Payload.lean ====
section
/-! DEFINITION. The host's payload procedure (46_host_payload.md R133 to R140): host software, not part of the block
(00_scope.md R7). No step of the machine runs it; it gives the bytes and the commands a host sends. -/

namespace Sys2Proof.Machine

/-- The procedure's one error (R135). -/
inductive PayloadError where
  | capacityExceeded
  deriving DecidableEq, Repr

/-- The bits of a byte, most significant first (R134, R138). -/
def byteBits (b : Byte) : List Bool := (List.range 8).map fun i => b.getLsbD (7 - i)

/-- The byte of up to 8 bits, the first the most significant (R138). -/
def bitsByte (bits : List Bool) : Byte := bits.foldl (fun acc b => (acc <<< 1) ||| (if b then 1 else 0)) 0

/-- The byte-mode indicator 0b0100 (R134; the value is the spec's general knowledge, 91 N18). -/
def modeIndicator : List Bool := [false, true, false, false]

/-- The bit string before padding (R134): mode, character count, characters, terminator. -/
def payloadBits (chars : List Byte) : List Bool :=
  modeIndicator ++ byteBits (BitVec.ofNat 8 chars.length) ++ chars.flatMap byteBits ++ List.replicate 4 false

/-- Zeros up to a byte boundary (R136). -/
def padToByte (bits : List Bool) : List Bool := bits ++ List.replicate ((8 - bits.length % 8) % 8) false

/-- The repeating pad pattern 1110110000010001 (R137): the bytes 0xEC, 0x11. -/
def padPattern : List Bool := byteBits 0xEC ++ byteBits 0x11

/-- The pattern, cyclically from its first bit, until the data segment is full (R137). -/
def padToCapacity (bits : List Bool) : List Bool :=
  bits ++ (List.range (8 * Config.dcap - bits.length)).map fun i => padPattern.getD (i % 16) false

/-- Each completed byte modulo 255 (R139); `clamp255` is the parameter of 93 I4, true in the reference. -/
def clampByte (clamp255 : Bool) (b : Byte) : Byte := if clamp255 then BitVec.ofNat 8 (b.toNat % 255) else b

/-- encodeData (R133 to R139): CapacityExceeded when the bit string is longer than 8 * DCAP, else 34 bytes. -/
def encodeData (clamp255 : Bool) (chars : List Byte) : Except PayloadError (List Byte) :=
  if (payloadBits chars).length > 8 * Config.dcap then .error .capacityExceeded
  else
    let bits := padToCapacity (padToByte (payloadBits chars))
    .ok ((List.range Config.dcap).map fun k => clampByte clamp255 (bitsByte ((bits.drop (8 * k)).take 8)))

/-- CW_WRITE k, b for each byte, from index `k` on (R140). -/
def loadCommands : Nat → List Byte → List Instr
  | _, [] => []
  | k, b :: bs => .cwWrite (BitVec.ofNat 8 k) b :: loadCommands (k + 1) bs

/-- MOD_READ of every cell, row by row (R140). -/
def readAllCells : List Instr :=
  (List.range Config.size).flatMap fun r => (List.range Config.size).map fun c =>
    .modRead (BitVec.ofNat 8 r) (BitVec.ofNat 8 c)

/-- The host's reference sequence for one symbol (R140). -/
def hostSequence (data : List Byte) : List Instr :=
  [.matrixClear, .setDlen 34] ++ loadCommands 0 data ++
  [.rsEncode, .placeFinders, .placeTiming, .placeAlign, .placeFormat, .mapData, .regRead 0] ++ readAllCells

end Sys2Proof.Machine
end

