-- ==== Sys2Proof/Machine/Assembler.lean ====
section
/-! DEFINITION. The assembly notation (30_encoding.md R73, R80 to R82). It is a notation for command words: no step of
the machine runs it. Text is a list of characters. -/

namespace Sys2Proof.Machine

/-- One assembly line: a command, an ILLEGAL_COMMAND word as a disassembler prints it (R82), or a pseudo-command (R81). -/
inductive AsmLine where
  | command (i : Instr)
  | rawWord (w : Word)
  | placeStructure
  | loadCw (bytes : List Byte)
  | readFlags
  | build
  deriving DecidableEq, Repr

/-- PLACE_STRUCTURE (R81). -/
def placeStructureCommands : List Instr := [.placeFinders, .placeTiming, .placeAlign, .placeFormat]

/-- The commands a line stands for (R81); none where the line has no legal field value (R73) or LOAD_CW has no byte
or more than its byte fields can number. -/
def AsmLine.words : AsmLine → Option (List Word)
  | .command i => if i.wellFormed then some [encode i] else none
  | .rawWord w => some [w]
  | .placeStructure => some (placeStructureCommands.map encode)
  | .loadCw bytes =>
    if 1 ≤ bytes.length ∧ bytes.length ≤ 255 then
      some ((.setDlen (BitVec.ofNat 8 bytes.length) :: loadCommands 0 bytes).map encode)
    else none
  | .readFlags => some [encode (.regRead 0)]
  | .build => some ((placeStructureCommands ++ [Instr.rsEncode, Instr.mapData]).map encode)

/-- Disassembly (R82). -/
def disassemble (w : Word) : AsmLine :=
  match decode w with
  | .ok i => .command i
  | .error _ => .rawWord w

/-- The mnemonic of a command, as R76 spells it. -/
def instrMnemonic : Instr → String
  | .gfExp _ => "GF_EXP"
  | .gfLog _ => "GF_LOG"
  | .bchFmt _ => "BCH_FMT"
  | .cwWrite _ _ => "CW_WRITE"
  | .cwRead _ => "CW_READ"
  | .setDlen _ => "SET_DLEN"
  | .genRead _ => "GEN_READ"
  | .rsEncode => "RS_ENCODE"
  | .matrixClear => "MATRIX_CLEAR"
  | .placeFinders => "PLACE_FINDERS"
  | .placeTiming => "PLACE_TIMING"
  | .placeAlign => "PLACE_ALIGN"
  | .placeFormat => "PLACE_FORMAT"
  | .modRead _ _ => "MOD_READ"
  | .maskEval _ _ _ => "MASK_EVAL"
  | .mapData => "MAP_DATA"
  | .setMask _ => "SET_MASK"
  | .regRead _ => "REG_READ"

/-- The operands of a command, in the order of its format (R80). -/
def instrOperands : Instr → List Int
  | .gfExp n => [n]
  | .gfLog v => [v.toNat]
  | .bchFmt d => [d.toNat]
  | .cwWrite idx val => [idx.toNat, val.toNat]
  | .cwRead idx => [idx.toNat]
  | .setDlen n => [n.toNat]
  | .genRead j => [j.toNat]
  | .rsEncode => []
  | .matrixClear => []
  | .placeFinders => []
  | .placeTiming => []
  | .placeAlign => []
  | .placeFormat => []
  | .modRead row col => [row.toNat, col.toNat]
  | .maskEval id row col => [id.toNat, row.toNat, col.toNat]
  | .mapData => []
  | .setMask id => [id.toNat]
  | .regRead sel => [sel.toNat]

/-- An unsigned field of `n` bits; none outside its range (R73: an assembler rejects, it does not truncate). -/
def fieldOf (n : Nat) (v : Int) : Option (BitVec n) :=
  if 0 ≤ v ∧ v < 2 ^ n then some (BitVec.ofNat n v.toNat) else none

/-- Format N: no operand. -/
def asmNone (i : Instr) : List Int → Option Instr
  | [] => some i
  | _ => none

/-- Format B8: one byte. -/
def asmOne (mk : Byte → Instr) : List Int → Option Instr
  | [a] => (fieldOf 8 a).map mk
  | _ => none

/-- Formats IV and RC: two bytes. -/
def asmTwo (mk : Byte → Byte → Instr) : List Int → Option Instr
  | [a, b] => (fieldOf 8 a).bind fun x => (fieldOf 8 b).map (mk x)
  | _ => none

/-- Format MRC: three bytes. -/
def asmThree (mk : Byte → Byte → Byte → Instr) : List Int → Option Instr
  | [a, b, c] => (fieldOf 8 a).bind fun x => (fieldOf 8 b).bind fun y => (fieldOf 8 c).map (mk x y)
  | _ => none

/-- Format D5: one 5-bit descriptor. -/
def asmDescriptor : List Int → Option Instr
  | [a] => (fieldOf 5 a).map .bchFmt
  | _ => none

/-- Format I24: one signed integer in range. -/
def asmSigned : List Int → Option Instr
  | [a] => if imm24InRange a then some (.gfExp a) else none
  | _ => none

/-- The command a mnemonic and its operands stand for (R73, R80). -/
def instrOf (name : List Char) (ops : List Int) : Option Instr :=
  if name = "GF_EXP".toList then asmSigned ops
  else if name = "GF_LOG".toList then asmOne .gfLog ops
  else if name = "BCH_FMT".toList then asmDescriptor ops
  else if name = "CW_WRITE".toList then asmTwo .cwWrite ops
  else if name = "CW_READ".toList then asmOne .cwRead ops
  else if name = "SET_DLEN".toList then asmOne .setDlen ops
  else if name = "GEN_READ".toList then asmOne .genRead ops
  else if name = "RS_ENCODE".toList then asmNone .rsEncode ops
  else if name = "MATRIX_CLEAR".toList then asmNone .matrixClear ops
  else if name = "PLACE_FINDERS".toList then asmNone .placeFinders ops
  else if name = "PLACE_TIMING".toList then asmNone .placeTiming ops
  else if name = "PLACE_ALIGN".toList then asmNone .placeAlign ops
  else if name = "PLACE_FORMAT".toList then asmNone .placeFormat ops
  else if name = "MOD_READ".toList then asmTwo .modRead ops
  else if name = "MASK_EVAL".toList then asmThree .maskEval ops
  else if name = "MAP_DATA".toList then asmNone .mapData ops
  else if name = "SET_MASK".toList then asmOne .setMask ops
  else if name = "REG_READ".toList then asmOne .regRead ops
  else none

/-- The line a mnemonic and its operands stand for, pseudo-commands and `.word` among them (R80 to R82). -/
def lineOf (name : List Char) (ops : List Int) : Option AsmLine :=
  if name = ".word".toList then
    match ops with
    | [a] => (fieldOf 32 a).map .rawWord
    | _ => none
  else if name = "PLACE_STRUCTURE".toList then if ops = [] then some .placeStructure else none
  else if name = "READ_FLAGS".toList then if ops = [] then some .readFlags else none
  else if name = "BUILD".toList then if ops = [] then some .build else none
  else if name = "LOAD_CW".toList then (ops.mapM (fieldOf 8)).map .loadCw
  else (instrOf name ops).map .command

/-! ### Text (R80): decimal, 0x hexadecimal or 0b binary operands, separated by commas; `;` starts a comment -/

/-- The value of a digit character. DESIGN CHOICE: hexadecimal digits are read in either case (log 15). Safe. -/
def digitValue (c : Char) : Option Nat :=
  if '0' ≤ c ∧ c ≤ '9' then some (c.toNat - '0'.toNat)
  else if 'a' ≤ c ∧ c ≤ 'f' then some (c.toNat - 'a'.toNat + 10)
  else if 'A' ≤ c ∧ c ≤ 'F' then some (c.toNat - 'A'.toNat + 10)
  else none

/-- Digits in a base, most significant first, onto what has been read so far. -/
def readDigits (base : Nat) : Nat → List Char → Option Nat
  | acc, [] => some acc
  | acc, c :: cs =>
    match digitValue c with
    | some d => if d < base then readDigits base (base * acc + d) cs else none
    | none => none

/-- A number without a sign. -/
def readUnsigned : List Char → Option Nat
  | [] => none
  | ['0', 'x'] => none
  | ['0', 'b'] => none
  | '0' :: 'x' :: cs => readDigits 16 0 cs
  | '0' :: 'b' :: cs => readDigits 2 0 cs
  | cs => readDigits 10 0 cs

/-- An operand (R80: GF_EXP's may be negative). -/
def readOperand : List Char → Option Int
  | '-' :: cs => (readUnsigned cs).map fun n => -(n : Int)
  | cs => (readUnsigned cs).map fun n => (n : Int)

/-- Leading and trailing spaces removed. -/
def trimSpaces (cs : List Char) : List Char :=
  ((cs.dropWhile (· == ' ')).reverse.dropWhile (· == ' ')).reverse

/-- The text split at commas. -/
def splitCommas : List Char → List (List Char)
  | [] => [[]]
  | c :: cs =>
    match splitCommas cs with
    | [] => if c = ',' then [[], []] else [[c]]
    | w :: ws => if c = ',' then [] :: w :: ws else (c :: w) :: ws

/-- The operand list of a line's rest; an empty rest has no operand. -/
def readOperands (cs : List Char) : Option (List Int) :=
  if trimSpaces cs = [] then some [] else (splitCommas cs).mapM fun w => readOperand (trimSpaces w)

/-- Assembly of one line of text (R80); none where it is not a legal line. A line that is empty but for a comment
is not a line of the notation. -/
def parseLine (text : List Char) : Option AsmLine :=
  let body := trimSpaces (text.takeWhile (· != ';'))
  let name := body.takeWhile (· != ' ')
  (readOperands (body.drop name.length)).bind (lineOf name)

/-- The hexadecimal digits of a 32-bit word, eight of them (R82: 0x........). DESIGN CHOICE: upper case, which R82 leaves
open (log 15). Safe. -/
def wordDigits (w : Word) : List Char :=
  (List.range 8).map fun i => "0123456789ABCDEF".toList.getD ((w.toNat >>> (4 * (7 - i))) % 16) '0'

/-- An operand as a disassembler prints it. DESIGN CHOICE: in decimal; R80 allows decimal, hexadecimal and binary and R82
names none (log 15). Safe. -/
def showOperand (v : Int) : List Char :=
  if v < 0 then '-' :: Nat.toDigits 10 v.natAbs else Nat.toDigits 10 v.natAbs

/-- Operands separated by a comma and a space, the spacing of R80's examples. DESIGN CHOICE: R82 names no spacing
(log 15). Safe. -/
def showOperands : List Int → List Char
  | [] => []
  | [v] => showOperand v
  | v :: vs => showOperand v ++ ", ".toList ++ showOperands vs

/-- A command as a disassembler prints it (R80, R82). -/
def showInstr (i : Instr) : List Char :=
  if instrOperands i = [] then (instrMnemonic i).toList
  else (instrMnemonic i).toList ++ [' '] ++ showOperands (instrOperands i)

/-- A disassembled word (R82): the command's line, or `.word 0x........`. -/
def showWord (w : Word) : List Char :=
  match disassemble w with
  | .command i => showInstr i
  | _ => ".word 0x".toList ++ wordDigits w

end Sys2Proof.Machine
end

