-- ==== Sys2Proof/Safety.lean ====
section
/-! DEFINITION. What counts as a sound state and a safe run: the structural cell sets (43_symbol_matrix.md R116), the
invariant of 10_state.md R39 with the value ranges of R22, R23, R28 and R31, and completion (60_exceptions.md R151). -/

namespace Sys2Proof.Machine

/-- FINDER (R116): the three 8x8 corner blocks, for r and c in 0..24. -/
def inFinder (r c : Nat) : Bool := decide ((r ≤ 7 ∧ c ≤ 7) ∨ (r ≤ 7 ∧ 17 ≤ c) ∨ (17 ≤ r ∧ c ≤ 7))

/-- TIMING (R116): (6, 8..16) and (8..16, 6). -/
def inTiming (r c : Nat) : Bool := decide ((r = 6 ∧ 8 ≤ c ∧ c ≤ 16) ∨ (c = 6 ∧ 8 ≤ r ∧ r ≤ 16))

/-- ALIGN (R116): rows 16..20 and columns 16..20. -/
def inAlign (r c : Nat) : Bool := decide (16 ≤ r ∧ r ≤ 20 ∧ 16 ≤ c ∧ c ≤ 20)

/-- Where the format cells lie along their row or column 8 (R114, R115): 0..5, 7, 8 and 17..24. -/
def onFormatRun (i : Nat) : Bool := decide (i ≤ 5 ∨ i = 7 ∨ i = 8 ∨ 17 ≤ i)

/-- FORMAT (R116): the cells A(0..14), B(0..14) and the dark module, for r and c in 0..24. -/
def inFormat (r c : Nat) : Bool := (c == 8 && onFormatRun r) || (r == 8 && onFormatRun c)

/-- The cells written when the flags read `f` (R39): every cell once MAP is set, else those of the placed patterns. -/
def writtenCell (f : Flags) (r c : Nat) : Bool :=
  f.map || (f.find && inFinder r c) || (f.tim && inTiming r c) || (f.aln && inAlign r c) || (f.fmtp && inFormat r c)

/-- The invariant of R39, with the value ranges of DLEN (R22), ECLEN (R23) and SYMERR (R31) and FMT's value (R28). -/
structure State.Inv (s : State) : Prop where
  /-- DLEN is 0..34. -/
  dlen_le : s.dlen.toNat ≤ 34
  /-- ECLEN is 0 or 10, and 10 only with DLEN at least 1. -/
  eclen_values : s.eclen = 0 ∨ (s.eclen = 10 ∧ 1 ≤ s.dlen.toNat)
  /-- SYMERR is 0, SEQUENCE_ERROR or INVALID_MASK_PATTERN. -/
  symerr_values : s.symerr = 0 ∨ s.symerr = 3 ∨ s.symerr = 4
  /-- A cell is not Unset exactly when the pattern of a set flag holds it, or MAP = 1. -/
  cells : ∀ r < 25, ∀ c < 25, (readCell s.m r c ≠ .unset ↔ writtenCell s.flags r c = true)
  /-- MAP = 1 implies the four placement flags. -/
  map_placed : s.flags.map = true →
    s.flags.find = true ∧ s.flags.tim = true ∧ s.flags.aln = true ∧ s.flags.fmtp = true
  /-- FMTP = 1 exactly when FMT is not 0. -/
  fmt_placed : s.flags.fmtp = true ↔ s.fmt ≠ 0
  /-- FMTP = 1 implies that FMT is the format value of MASK. -/
  fmt_value : s.flags.fmtp = true → s.fmt = bchFormat (formatDescriptor s.mask)
  /-- FMTP = 1 or MAP = 1 implies MASK at most 7. -/
  mask_le : s.flags.fmtp = true ∨ s.flags.map = true → s.mask.toNat ≤ 7

/-- The symbol is complete (20_memory.md R62): VALID = 1. -/
def symbolComplete (s : State) : Bool := validBit s.flags s.symerr

/-- The content of the symbol (R62): the 625 cell codes, row by row from the top. -/
def symbolCodes (s : State) : List (BitVec 2) :=
  (List.range 25).flatMap fun r => (List.range 25).map fun c => cellCode (readCell s.m r c)

/-- A step that completes: it ends in a next state, neither a fault nor a refusal (R151). -/
def Completes (o : Host.Outcome State Fault Refusal) : Prop := ∃ t, o = .next t

/-- The five construction commands (00_scope.md R14). -/
def isConstruction : Instr → Bool
  | .placeFinders => true
  | .placeTiming => true
  | .placeAlign => true
  | .placeFormat => true
  | .mapData => true
  | .gfExp _ => false
  | .gfLog _ => false
  | .bchFmt _ => false
  | .cwWrite _ _ => false
  | .cwRead _ => false
  | .setDlen _ => false
  | .genRead _ => false
  | .rsEncode => false
  | .matrixClear => false
  | .modRead _ _ => false
  | .maskEval _ _ _ => false
  | .setMask _ => false
  | .regRead _ => false

/-- The commands that only read (R51). -/
def isReader : Instr → Bool
  | .gfExp _ => true
  | .gfLog _ => true
  | .bchFmt _ => true
  | .cwRead _ => true
  | .genRead _ => true
  | .modRead _ _ => true
  | .maskEval _ _ _ => true
  | .regRead _ => true
  | .cwWrite _ _ => false
  | .setDlen _ => false
  | .rsEncode => false
  | .matrixClear => false
  | .placeFinders => false
  | .placeTiming => false
  | .placeAlign => false
  | .placeFormat => false
  | .mapData => false
  | .setMask _ => false

/-- The commands that read the codeword buffer's contents (20_memory.md R46). -/
def readsCodewords : Instr → Bool
  | .cwRead _ => true
  | .rsEncode => true
  | .mapData => true
  | .gfExp _ => false
  | .gfLog _ => false
  | .bchFmt _ => false
  | .cwWrite _ _ => false
  | .setDlen _ => false
  | .genRead _ => false
  | .matrixClear => false
  | .placeFinders => false
  | .placeTiming => false
  | .placeAlign => false
  | .placeFormat => false
  | .modRead _ _ => false
  | .maskEval _ _ _ => false
  | .setMask _ => false
  | .regRead _ => false

end Sys2Proof.Machine
end

