-- ==== Sys2Proof/Certificates/Slice0/Obligations.lean ====
section
/-! DEFINITION. The statements for the provers, from the numbered rules of spec/. Those about a command's result say
that exec ANSWERS the next state written out, for every state and operand: what that state does not change is its
frame. The reference definitions under Sys2Proof.Spec say what the spec says in a form of their own. -/

namespace Sys2Proof.Spec

open Sys2Proof.Machine

/-! ### Reference definitions -/

/-- The state after a response: [31:24] STATUS | [23:0] RESULT (R74). -/
def answered (s : State) (status : Byte) (result : Operand) : State :=
  { s with response := some (status ++ result) }

/-- The word `w`, when it is the next command, runs `i` (whatever the state and the host's later events). -/
def Runs (w : Word) (i : Instr) : Prop :=
  ∀ (s : State) (rest : List HostEvent),
    step { s with pending := .command w :: rest } = exec i { s with pending := rest }

/-- The word `w` is answered with ILLEGAL_COMMAND and changes nothing (R65). -/
def Rejects (w : Word) : Prop :=
  ∀ (s : State) (rest : List HostEvent),
    step { s with pending := .command w :: rest } = .next (answered { s with pending := rest } 0x01 0)

/-- Format N under an opcode (R66): every operand bit reserved. -/
def EncodedN (opc : Byte) (i : Instr) : Prop :=
  ∀ v : Operand, if v = 0 then Runs (opc ++ v) i else Rejects (opc ++ v)

/-- Format B8 under an opcode (R67): cmd[23:8] reserved. -/
def EncodedB8 (opc : Byte) (mk : Byte → Instr) : Prop :=
  ∀ v : Operand,
    if v.toNat < 256 then Runs (opc ++ v) (mk (BitVec.ofNat 8 v.toNat)) else Rejects (opc ++ v)

/-- Formats IV and RC under an opcode (R70, R71): cmd[23:16] reserved. -/
def EncodedTwo (opc : Byte) (mk : Byte → Byte → Instr) : Prop :=
  ∀ v : Operand,
    if v.toNat < 65536 then Runs (opc ++ v) (mk (BitVec.ofNat 8 (v.toNat / 256)) (BitVec.ofNat 8 v.toNat))
    else Rejects (opc ++ v)

/-- One row of the opcode map (R76). -/
structure OpcodeRow where
  opc : Byte
  pattern : Word
  mask : Word
  deriving DecidableEq, Repr

/-- The opcode map, row by row as R76 lists it. -/
def opcodeMap : List OpcodeRow :=
  [⟨0x01, 0x01000000, 0xFF000000⟩, ⟨0x02, 0x02000000, 0xFFFFFF00⟩, ⟨0x08, 0x08000000, 0xFFFFFFE0⟩,
   ⟨0x10, 0x10000000, 0xFFFF0000⟩, ⟨0x11, 0x11000000, 0xFFFFFF00⟩, ⟨0x12, 0x12000000, 0xFFFFFF00⟩,
   ⟨0x13, 0x13000000, 0xFFFFFF00⟩, ⟨0x14, 0x14000000, 0xFFFFFFFF⟩, ⟨0x20, 0x20000000, 0xFFFFFFFF⟩] ++
  [⟨0x21, 0x21000000, 0xFFFFFFFF⟩, ⟨0x22, 0x22000000, 0xFFFFFFFF⟩, ⟨0x23, 0x23000000, 0xFFFFFFFF⟩,
   ⟨0x24, 0x24000000, 0xFFFFFFFF⟩, ⟨0x25, 0x25000000, 0xFFFF0000⟩, ⟨0x28, 0x28000000, 0xFF000000⟩,
   ⟨0x29, 0x29000000, 0xFFFFFFFF⟩, ⟨0x30, 0x30000000, 0xFFFFFF00⟩, ⟨0x31, 0x31000000, 0xFFFFFF00⟩]

/-- A word that is the command of a row: (cmd and mask) = match (R64). -/
def Matches (w : Word) (row : OpcodeRow) : Prop := w &&& row.mask = row.pattern

/-- The matrix whose cell (r, c) is `f r c`. -/
def tabulate (f : Nat → Nat → CellState) : Grid :=
  Vector.ofFn fun r : Fin 25 => Vector.ofFn fun c : Fin 25 => f r c

/-- The matrix `m` with the cells of a set replaced by a pattern. -/
def overlay (m : Grid) (inSet : Nat → Nat → Bool) (colour : Nat → Nat → CellState) : Grid :=
  tabulate fun r c => if inSet r c then colour r c else readCell m r c

/-- The distance of two numbers. -/
def dist (a b : Nat) : Nat := max a b - min a b

/-- The finder pattern by its rings: with (a, b) the place inside the 8x8 block counted from the symbol's corner, Dark
but on the ring at distance 2 from the core's centre (3, 3) and on the border row and column 7 (R110, R111). -/
def finderColour (r c : Nat) : CellState :=
  let a := if r ≤ 7 then r else 24 - r
  let b := if c ≤ 7 then c else 24 - c
  if a = 7 ∨ b = 7 ∨ max (dist a 3) (dist b 3) = 2 then .light else .dark

/-- The timing pattern: Dark at even indices (R112). -/
def timingColour (r c : Nat) : CellState :=
  if (if r = 6 then c else r) % 2 = 0 then .dark else .light

/-- The alignment pattern by its rings about (18, 18) (R113). -/
def alignColour (r c : Nat) : CellState :=
  if max (dist r 18) (dist c 18) = 1 then .light else .dark

/-- The cells A(0..14) as R114's table lists them. -/
def formatACells : List (Nat × Nat) :=
  [(0, 8), (1, 8), (2, 8), (3, 8), (4, 8), (5, 8), (7, 8), (8, 8), (8, 7), (8, 5), (8, 4), (8, 3), (8, 2), (8, 1),
   (8, 0)]

/-- The cells B(0..14) as R114's table lists them. -/
def formatBCells : List (Nat × Nat) :=
  [(8, 24), (8, 23), (8, 22), (8, 21), (8, 20), (8, 19), (8, 18), (8, 17), (18, 8), (19, 8), (20, 8), (21, 8),
   (22, 8), (23, 8), (24, 8)]

/-- The colour of a format cell: bit i of the format value at A(i) and B(i), and Dark at (17, 8) (R114, R115). -/
def formatColour (f : Nat) (r c : Nat) : CellState :=
  if r = 17 ∧ c = 8 then .dark
  else
    let i := if (r, c) ∈ formatACells then formatACells.idxOf (r, c) else formatBCells.idxOf (r, c)
    if f.testBit i then .dark else .light

/-- The format values of MASK 0..7 (R121). -/
def formatValues : List Nat := [0x77C4, 0x72F3, 0x7DAA, 0x789D, 0x662F, 0x6318, 0x6C41, 0x6976]

/-- Carry-less multiplication of a 5-bit polynomial by `g`. -/
def clmul (q g : Nat) : Nat :=
  (List.range 5).foldl (fun acc i => if q.testBit i then acc ^^^ (g <<< i) else acc) 0

/-- The mask formulas (R123), as divisibility conditions on the row and the column. -/
def maskHolds (id row col : Nat) : Bool :=
  match id with
  | 0 => decide (2 ∣ row + col)
  | 1 => decide (2 ∣ row)
  | 2 => decide (3 ∣ col)
  | 3 => decide (3 ∣ row + col)
  | 4 => decide (2 ∣ row / 2 + col / 3)
  | 5 => decide (6 ∣ row * col)
  | 6 => decide (2 ∣ row * col % 2 + row * col % 3)
  | 7 => decide (2 ∣ row * col % 3 + (row + col) % 2)
  | _ => false

/-- The column pairs of R125 by their right columns, with their directions (true: up). -/
def mapPairs : List (Nat × Bool) :=
  [(24, true), (22, false), (20, true), (18, false), (16, true), (14, false), (12, true), (10, false), (8, true),
   (5, false), (3, true), (1, false)]

/-- The cells in visiting order (R125): 25 rows a pair, from the row 24 up or from the row 0 down, right column first. -/
def mapVisit : List (Nat × Nat) :=
  mapPairs.flatMap fun p => (List.range 25).flatMap fun k =>
    let r := if p.2 then 24 - k else k
    [(r, p.1), (r, p.1 - 1)]

/-- mapOrder (R125): the visited cells that are Unset. -/
def mapOrder (m : Grid) : List (Nat × Nat) := mapVisit.filter fun p => decide (readCell m p.1 p.2 = .unset)

/-- streamBit(k) (R124), by integer division. -/
def streamBitIsOne (s : State) (k : Nat) : Bool :=
  decide (k < 8 * (s.dlen.toNat + s.eclen.toNat) ∧ (readCw s.cw (k / 8)).toNat / 2 ^ (7 - k % 8) % 2 = 1)

/-- The colour MAP_DATA gives the k-th yielded cell (R126): Dark exactly when the stream bit and the mask differ. -/
def dataColour (s : State) (k : Nat) (cell : Nat × Nat) : CellState :=
  if streamBitIsOne s k = maskHolds s.mask.toNat cell.1 cell.2 then .light else .dark

/-- The data segment CW[0..DLEN-1] (R24). -/
def dataBytes (s : State) : List Byte := (List.range s.dlen.toNat).map fun i => readCw s.cw i

/-- r[k] of R95 before step i, entry by entry: the data then zeros, each step XORing exp(GEN[k-i] + L) into the entries
i..i+10, with L the log of r[i], or 0 when r[i] is 0 (R96). -/
def remaining (d : List Byte) : Nat → Nat → Byte
  | 0, k => d.getD k 0
  | i + 1, k =>
    let lead := remaining d i i
    let l : Nat := if lead = 0 then 0 else (logEntry lead).toNat
    remaining d i k ^^^ (if i ≤ k ∧ k ≤ i + 10 then expEntry (((genEntry (k - i)).toNat + l) % 255) else 0)

/-- One step of the source's array form (R97): the generator times alpha^lead is XORed into the leading positions,
missing positions read as 0, then the leading term is dropped. -/
def sourceStep (msg : List Byte) : List Byte :=
  let lead := msg.headD 0
  let l : Nat := if lead = 0 then 0 else (logEntry lead).toNat
  ((List.range (max msg.length 11)).map fun k =>
    msg.getD k 0 ^^^ (if k ≤ 10 then gfExp (((genEntry k).toNat + l : Nat) : Int) else 0)).drop 1

/-- N steps of the source's array form. -/
def sourceSteps : Nat → List Byte → List Byte
  | 0, msg => msg
  | n + 1, msg => sourceSteps n (sourceStep msg)

/-- A polynomial, highest degree first, evaluated at x. -/
def evalAt (x : Byte) (p : List Byte) : Byte := p.foldl (fun acc b => gfMul acc x ^^^ b) 0

/-- Multiplication of a polynomial (highest degree first) by (X - root). -/
def timesRoot (root : Byte) (p : List Byte) : List Byte :=
  (List.range (p.length + 1)).map fun k =>
    p.getD k 0 ^^^ (if k = 0 then 0 else gfMul root (p.getD (k - 1) 0))

/-- The working buffer of R95 before step i. -/
def bufferBefore (d : List Byte) (i : Nat) : List Byte :=
  (List.range i).foldl rsIteration (d ++ List.replicate 10 0)

/-- No step of R95 meets a zero leading coefficient. -/
def NoZeroLead (d : List Byte) : Prop := ∀ i < d.length, (bufferBefore d i).getD i 0 ≠ 0

/-- The registers by selector (R33, R132). -/
def registers (s : State) : List Nat :=
  [s.flags.find.toNat + 2 * s.flags.tim.toNat + 4 * s.flags.aln.toNat + 8 * s.flags.fmtp.toNat +
      16 * s.flags.map.toNat + (if s.flags.map = true ∧ s.symerr = 0 then 32 else 0),
   s.mask.toNat, s.dlen.toNat, s.eclen.toNat, s.fmt.toNat, s.symerr.toNat, 2, 1, 25, 34, 10, 11]

/-- The state one command leaves when it is the only one issued (R54: the atomic command function). -/
def commandEffect (s : State) (w : Word) : State :=
  match step { s with pending := [.command w] } with
  | .next t => t
  | .fault _ => s
  | .refused _ => s

/-- The four placement commands (R145). -/
def placements : List Instr := [.placeFinders, .placeTiming, .placeAlign, .placeFormat]

/-- The flag that guards a placement is clear (R145): each placement has its own. -/
def OwnFlagClear (i : Instr) (f : Flags) : Prop :=
  (i = .placeFinders → f.find = false) ∧ (i = .placeTiming → f.tim = false) ∧
  (i = .placeAlign → f.aln = false) ∧ (i = .placeFormat → f.fmtp = false)

/-- The data cells of a matrix in the order the mapper visits them: the model's own traversal under R125's Unset test. -/
def yielded (m : Grid) : List (Nat × Nat) :=
  visitOrder.filter fun p => decide (readCell m p.1 p.2 = .unset)

/-- The status codes a command can return (R143), OK among them. -/
def allowedStatus : Instr → List Byte
  | .gfExp _ => [0x00]
  | .gfLog _ => [0x00, 0x05]
  | .bchFmt _ => [0x00]
  | .cwWrite _ _ => [0x00, 0x02]
  | .cwRead _ => [0x00, 0x02]
  | .setDlen _ => [0x00, 0x02]
  | .genRead _ => [0x00, 0x02]
  | .rsEncode => [0x00]
  | .matrixClear => [0x00]
  | .placeFinders => [0x00, 0x03, 0x06]
  | .placeTiming => [0x00, 0x03, 0x06]
  | .placeAlign => [0x00, 0x03, 0x06]
  | .placeFormat => [0x00, 0x03, 0x04, 0x06]
  | .modRead _ _ => [0x00, 0x02, 0x06]
  | .maskEval _ _ _ => [0x00, 0x04]
  | .mapData => [0x00, 0x03, 0x04, 0x06]
  | .setMask _ => [0x00, 0x03]
  | .regRead _ => [0x00, 0x02]

end Sys2Proof.Spec

open Sys2Proof
open Sys2Proof.Machine
open Sys2Proof.Spec

/-! ### Encoding and decoding -/

/-- R73: the word an assembler builds for a command that fits its format decodes to that command, with every operand
at every value. -/
def Obligations.EncodeThenDecode : Prop :=
  ∀ i : Instr, i.wellFormed = true → decode (encode i) = .ok i

/-- R69, R73, R82: a word that decodes is the word of the command it decodes to, which fits its format. -/
def Obligations.DecodedWordReencodes : Prop :=
  ∀ (w : Word) (i : Instr), decode w = .ok i → i.wellFormed = true ∧ encode i = w

/-- R64: a word decodes to the command of the row it matches, to a rejection when it matches none (by its opcode
first, then by its reserved bits), and no word matches two rows. -/
def Obligations.DecodingFollowsTheOpcodeMap : Prop :=
  (∀ (w : Word), ∀ row ∈ opcodeMap, Matches w row ↔ ∃ i, decode w = .ok i ∧ i.opcode = row.opc) ∧
  (∀ w : Word, (∀ row ∈ opcodeMap, ¬Matches w row) ↔
    decode w = .error (if ∃ row ∈ opcodeMap, row.opc = w.extractLsb' 24 8
      then .reservedBitSet (w.extractLsb' 24 8) else .unassignedOpcode (w.extractLsb' 24 8))) ∧
  (∀ (w : Word), ∀ a ∈ opcodeMap, ∀ b ∈ opcodeMap, Matches w a → Matches w b → a = b)

/-- R65, R77: a word that matches no row, by its opcode or by a reserved bit, is answered with ILLEGAL_COMMAND and
changes nothing, SYMERR included. -/
def Obligations.UnmatchedWordIsIllegalAndChangesNothing : Prop :=
  ∀ w : Word, (∀ row ∈ opcodeMap, ¬Matches w row) → Rejects w

/-- R80: the example words of the assembly syntax decode to the commands they stand for, and so do words of the
other formats. -/
def Obligations.ExampleWordsDecode : Prop :=
  decode 0x01FFFFFF = .ok (.gfExp (-1)) ∧ decode 0x10000354 = .ok (.cwWrite 3 0x54) ∧
  decode 0x25001108 = .ok (.modRead 17 8) ∧ decode 0x28070203 = .ok (.maskEval 7 2 3) ∧
  decode 0x31000005 = .ok (.regRead 5) ∧ decode 0x0800000F = .ok (.bchFmt 15) ∧
  decode 0x14000000 = .ok .rsEncode ∧ decode 0x21000001 = .error (.reservedBitSet 0x21)

/-- R73, R82: a disassembled word assembles back to itself, and the mnemonic and operands of a command that fits its
format name that command. -/
def Obligations.DisassembledLineAssemblesBack : Prop :=
  (∀ w : Word, (disassemble w).words = some [w]) ∧
  (∀ i : Instr, i.wellFormed = true → instrOf (instrMnemonic i).toList (instrOperands i) = some i)

/-! ### The step -/

/-- When the next command word decodes to `i`, step is exec of `i` at the state without that word: nothing else is
added around exec. -/
def Obligations.StepRunsTheDecodedCommand : Prop :=
  ∀ (w : Word) (i : Instr), decode w = .ok i → Runs w i

/-- R158, R160, R161: with nothing issued the state is held, and a reset event leaves the reset state: every listed
register at its reset value, no response, the host's later events kept; what CW holds is the model's free value
(log 3), of which nothing is said. -/
def Obligations.ResetEventAndIdle : Prop :=
  (∀ s : State, step { s with pending := [] } = .next { s with pending := [] }) ∧
  (∀ (s : State) (rest : List HostEvent), ∃ t, step { s with pending := .reset :: rest } = .next t ∧
    t.dlen = 0 ∧ t.eclen = 0 ∧ (∀ r < 25, ∀ c < 25, readCell t.m r c = .unset) ∧ t.mask = 7 ∧ t.fmt = 0 ∧
    t.flags = ⟨false, false, false, false, false⟩ ∧ t.symerr = 0 ∧ t.response = none ∧ t.pending = rest)

/-- R161: the reset state, each register the spec gives a reset value. -/
def Obligations.ResetStateHoldsTheSpecValues : Prop :=
  State.reset.dlen = 0 ∧ State.reset.eclen = 0 ∧ (∀ r < 25, ∀ c < 25, readCell State.reset.m r c = .unset) ∧
  State.reset.mask = 7 ∧ State.reset.fmt = 0 ∧ State.reset.flags = ⟨false, false, false, false, false⟩ ∧
  State.reset.symerr = 0

/-- From R151: every step, whatever the state and the word, ends in a next state. -/
def Obligations.EveryStepCompletes : Prop :=
  (∀ s : State, Completes (step s)) ∧ (∀ (i : Instr) (s : State), Completes (exec i s))

/-- R54, over the host channel the model chose (log 1): the state after a sequence of commands is the atomic command
function applied command by command, whatever the host issues later. -/
def Obligations.CommandSequenceIsSequential : Prop :=
  ∀ (ws : List Word) (s : State) (rest : List HostEvent),
    Host.Core.run core ws.length { s with pending := ws.map HostEvent.command ++ rest } =
      .next { ws.foldl commandEffect s with pending := rest }

/-! ### The Galois field -/

/-- R84, R85: the EXP table is the result of the construction, and EXP[255] = EXP[0] = 1. -/
def Obligations.ExpTableFollowsTheConstruction : Prop :=
  (∀ i < 8, (expEntry i).toNat = 1 <<< i) ∧
  (∀ i, 8 ≤ i → i ≤ 254 → (expEntry i).toNat =
    if (expEntry (i - 1)).toNat <<< 1 ≥ 256 then ((expEntry (i - 1)).toNat <<< 1) ^^^ 285
    else (expEntry (i - 1)).toNat <<< 1) ∧
  expEntry 255 = expEntry 0 ∧ expEntry 0 = 1

/-- R86: LOG[EXP[i]] = i for every i in 0..254, which defines LOG[v] for every v in 1..255 exactly once. -/
def Obligations.LogTableInvertsExp : Prop :=
  (∀ i ≤ 254, (logEntry (expEntry i)).toNat = i) ∧
  (∀ v : Byte, v ≠ 0 → ∃ i ≤ 254, expEntry i = v ∧ ∀ j ≤ 254, expEntry j = v → j = i)

/-- R90, and the range of R84 (both the spec's own derivations): the field laws of exp and log, and EXP[i] in 1..255. -/
def Obligations.ExpAndLogFieldLaws : Prop :=
  (∀ v : Byte, v ≠ 0 → gfExp ((logEntry v).toNat : Nat) = v) ∧
  (∀ i : Nat, i ≤ 254 → (logEntry (gfExp (i : Int))).toNat = i) ∧
  gfExp 255 = 1 ∧ gfExp 0 = 1 ∧ (∀ n : Int, gfExp (n + 255) = gfExp n) ∧ (∀ i ≤ 254, 1 ≤ (expEntry i).toNat)

/-- R92: GF_EXP answers exp(n) = EXP[n mod 255] (Euclidean remainder) for every integer n and changes nothing, and
every word of its opcode is legal, its operand the two's complement value of cmd[23:0]. -/
def Obligations.GfExpCommand : Prop :=
  (∀ (n : Int) (s : State),
    exec (.gfExp n) s = .next (answered s 0x00 (BitVec.ofNat 24 (expEntry (n % 255).toNat).toNat))) ∧
  (∀ v : Operand, Runs (0x01#8 ++ v)
    (.gfExp (if v.toNat < 8388608 then (v.toNat : Int) else (v.toNat : Int) - 16777216)))

/-- R93: GF_LOG answers LOG_OF_ZERO for v = 0 and otherwise the i in 0..254 with exp(i) = v, and changes nothing. -/
def Obligations.GfLogCommand : Prop :=
  (∀ s : State, exec (.gfLog 0) s = .next (answered s 0x05 0)) ∧
  (∀ (v : Byte) (s : State), v ≠ 0 →
    ∃ i : Nat, i ≤ 254 ∧ expEntry i = v ∧ exec (.gfLog v) s = .next (answered s 0x00 (BitVec.ofNat 24 i))) ∧
  EncodedB8 0x02 .gfLog

/-! ### The codeword buffer and Reed-Solomon -/

/-- R100: CW_WRITE stores the byte at an index 0..43, answers BAD_OPERAND above, and changes nothing else. -/
def Obligations.CwWriteCommand : Prop :=
  (∀ (idx val : Byte) (s : State), exec (.cwWrite idx val) s =
    .next (if h : idx.toNat < 44 then answered { s with cw := s.cw.set idx.toNat val h } 0x00 0
      else answered s 0x02 0)) ∧
  EncodedTwo 0x10 .cwWrite

/-- R101: CW_READ answers the byte at an index 0..43, BAD_OPERAND above, and changes nothing. -/
def Obligations.CwReadCommand : Prop :=
  (∀ (idx : Byte) (s : State), exec (.cwRead idx) s =
    .next (if h : idx.toNat < 44 then answered s 0x00 (BitVec.ofNat 24 (s.cw[idx.toNat]'h).toNat)
      else answered s 0x02 0)) ∧
  EncodedB8 0x11 .cwRead

/-- R102: SET_DLEN stores a length 0..34 and clears ECLEN, answers BAD_OPERAND above, and changes nothing else. -/
def Obligations.SetDlenCommand : Prop :=
  (∀ (n : Byte) (s : State), exec (.setDlen n) s =
    .next (if n.toNat ≤ 34 then answered { s with dlen := BitVec.ofNat 6 n.toNat, eclen := 0 } 0x00 0
      else answered s 0x02 0)) ∧
  EncodedB8 0x12 .setDlen

/-- R20, R103: GEN_READ answers the generator exponent of an index 0..10, BAD_OPERAND above, and changes nothing. -/
def Obligations.GenReadCommand : Prop :=
  (∀ (j : Byte) (s : State), exec (.genRead j) s =
    .next (if j.toNat ≤ 10 then
        answered s 0x00 (BitVec.ofNat 24 ([0, 251, 67, 46, 61, 118, 70, 64, 94, 32, 45].getD j.toNat 0))
      else answered s 0x02 0)) ∧
  EncodedB8 0x13 .genRead

/-- R95, R96, R104: with DLEN = N at least 1, RS_ENCODE writes r[N..N+9] as R95's N steps leave them to CW[N..N+9],
sets ECLEN to 10 and answers 10; with DLEN = 0 it writes nothing to CW, sets ECLEN to 0 and answers 0. Every other entry
of CW and everything else stays. -/
def Obligations.RsEncodeCommand : Prop :=
  (∀ s : State, exec .rsEncode s =
    .next (answered
      { s with
        cw := Vector.ofFn fun i : Fin 44 =>
          if s.dlen ≠ 0 ∧ s.dlen.toNat ≤ i.val ∧ i.val < s.dlen.toNat + 10 then
            remaining (dataBytes s) s.dlen.toNat i.val
          else s.cw[i]
        eclen := if s.dlen = 0 then 0 else 10 }
      0x00 (if s.dlen = 0 then 0 else 10))) ∧
  EncodedN 0x14 .rsEncode

/-- R97 (the spec's own derivation): the buffer form of R95 and the source's shrinking array form agree on every
input. -/
def Obligations.RsEncodeEqualsTheSourceForm : Prop :=
  ∀ d : List Byte, rsEncode d = sourceSteps d.length d

/-- R98, and the length of R99 (the spec's own derivation): rsEncode of the empty sequence is empty, of any other it
has 10 bytes. -/
def Obligations.EcLengthIsTenOrZero : Prop :=
  rsEncode [] = [] ∧ ∀ d : List Byte, d ≠ [] → (rsEncode d).length = 10

/-- R96: a step with a zero leading coefficient XORs the generator in as it stands, leaving 1 in the dropped term,
where any other leading coefficient leaves 0; so a leading 0 and a leading 1 give the same EC bytes. -/
def Obligations.ZeroLeadActsAsOne : Prop :=
  (∀ (r : List Byte) (i : Nat), i + 10 < r.length → r.getD i 0 = 0 →
    (rsIteration r i).getD i 0 = 1 ∧
    ∀ j ≤ 10, (rsIteration r i).getD (i + j) 0 = r.getD (i + j) 0 ^^^ gfExp ((genEntry j).toNat : Nat)) ∧
  (∀ (r : List Byte) (i : Nat), i + 10 < r.length → r.getD i 0 ≠ 0 → (rsIteration r i).getD i 0 = 0) ∧
  (∀ d : List Byte, rsEncode (0 :: d) = rsEncode (1 :: d))

/-- R94 (the spec's own derivation): the generator's coefficients are those of the product of (x - alpha^i), i = 0..9. -/
def Obligations.GeneratorIsTheProductOfItsRoots : Prop :=
  (List.range 11).map (fun j => gfExp ((genEntry j).toNat : Nat)) =
    (List.range 10).foldl (fun p i => timesRoot (gfExp (i : Int)) p) [1]

/-- R99 (the spec's own derivation): when no step meets a zero leading coefficient, the data followed by its EC bytes
is a multiple of the generator: it vanishes at alpha^0 to alpha^9. -/
def Obligations.EcBytesCompleteACodeword : Prop :=
  ∀ d : List Byte, NoZeroLead d → ∀ i < 10, evalAt (gfExp (i : Int)) (d ++ rsEncode d) = 0

/-! ### The BCH format encoder -/

/-- R106, R108: BCH_FMT answers ((d << 10) or b) xor FMASK, b the 10-bit remainder of d << 10 by G15 (d << 10 is a
carry-less multiple of G15 plus b), and changes nothing, FMT included. -/
def Obligations.BchFmtCommand : Prop :=
  (∀ d : BitVec 5, ∃ b q : Nat, b < 1024 ∧ q < 32 ∧ clmul q 0x537 ^^^ b = d.toNat <<< 10 ∧
    ∀ s : State, exec (.bchFmt d) s =
      .next (answered s 0x00 (BitVec.ofNat 24 (((d.toNat <<< 10) ||| b) ^^^ 0x5412)))) ∧
  (∀ v : Operand, if v.toNat < 32 then Runs (0x08#8 ++ v) (.bchFmt (BitVec.ofNat 5 v.toNat))
    else Rejects (0x08#8 ++ v))

/-- R107 (the spec's own derivation): the top five bits are the descriptor xor 0b10101, no descriptor gives 0, and
descriptor 15 gives 0x6976. -/
def Obligations.BchFormatProperties : Prop :=
  (∀ d < 32, (bchFormat d).toNat / 1024 = d ^^^ 0b10101) ∧ (∀ d < 32, bchFormat d ≠ 0) ∧
  bchFormat 0 = 0x5412 ∧ bchFormat 15 = 0x6976

/-! ### The symbol matrix -/

/-- R117: MATRIX_CLEAR, in every state, sets every cell Unset and clears FLAGS, FMT and SYMERR, and changes nothing
else. -/
def Obligations.MatrixClearCommand : Prop :=
  (∀ s : State, exec .matrixClear s =
    .next (answered
      { s with
        m := tabulate fun _ _ => .unset
        flags := ⟨false, false, false, false, false⟩
        fmt := 0
        symerr := 0 } 0x00 0)) ∧
  EncodedN 0x20 .matrixClear

/-- R111, R118: PLACE_FINDERS. -/
def Obligations.PlaceFindersCommand : Prop :=
  (∀ s : State, exec .placeFinders s = .next
    (if s.symerr ≠ 0 then answered s 0x06 0
     else if s.flags.find = true then answered { s with symerr := 0x03 } 0x03 0
     else answered
      { s with m := overlay s.m inFinder finderColour, flags := { s.flags with find := true } } 0x00 0)) ∧
  EncodedN 0x21 .placeFinders

/-- R112, R119: PLACE_TIMING. -/
def Obligations.PlaceTimingCommand : Prop :=
  (∀ s : State, exec .placeTiming s = .next
    (if s.symerr ≠ 0 then answered s 0x06 0
     else if s.flags.tim = true then answered { s with symerr := 0x03 } 0x03 0
     else answered
      { s with m := overlay s.m inTiming timingColour, flags := { s.flags with tim := true } } 0x00 0)) ∧
  EncodedN 0x22 .placeTiming

/-- R113, R120: PLACE_ALIGN. -/
def Obligations.PlaceAlignCommand : Prop :=
  (∀ s : State, exec .placeAlign s = .next
    (if s.symerr ≠ 0 then answered s 0x06 0
     else if s.flags.aln = true then answered { s with symerr := 0x03 } 0x03 0
     else answered
      { s with m := overlay s.m inAlign alignColour, flags := { s.flags with aln := true } } 0x00 0)) ∧
  EncodedN 0x23 .placeAlign

/-- R114, R115, R121: PLACE_FORMAT, its format value one of the eight of R121. -/
def Obligations.PlaceFormatCommand : Prop :=
  (∀ s : State, exec .placeFormat s = .next
    (if s.symerr ≠ 0 then answered s 0x06 0
     else if s.flags.fmtp = true then answered { s with symerr := 0x03 } 0x03 0
     else if s.mask.toNat > 7 then answered { s with symerr := 0x04 } 0x04 0
     else answered
      { s with
        m := overlay s.m inFormat (formatColour (formatValues.getD s.mask.toNat 0))
        fmt := BitVec.ofNat 15 (formatValues.getD s.mask.toNat 0)
        flags := { s.flags with fmtp := true } }
      0x00 (BitVec.ofNat 24 (formatValues.getD s.mask.toNat 0)))) ∧
  EncodedN 0x24 .placeFormat

/-- R26, R122: MOD_READ answers BAD_OPERAND outside the matrix, then SYMBOL_INVALID while SYMERR is not 0, else the
cell's code 0, 1 or 2, and changes nothing. -/
def Obligations.ModReadCommand : Prop :=
  (∀ (row col : Byte) (s : State), exec (.modRead row col) s = .next
    (if row.toNat > 24 ∨ col.toNat > 24 then answered s 0x02 0
     else if s.symerr ≠ 0 then answered s 0x06 0
     else answered s 0x00 (match readCell s.m row.toNat col.toNat with
       | .unset => 0
       | .light => 1
       | .dark => 2))) ∧
  EncodedTwo 0x25 .modRead

/-- R116 (the spec's own derivation): the four structural sets are pairwise disjoint, have 192, 18, 25 and 31 cells,
and leave 359 data cells. -/
def Obligations.StructuralSetsAreDisjoint : Prop :=
  (∀ r < 25, ∀ c < 25,
    (inFinder r c).toNat + (inTiming r c).toNat + (inAlign r c).toNat + (inFormat r c).toNat ≤ 1) ∧
  (List.range 625).countP (fun k => inFinder (k / 25) (k % 25)) = 192 ∧
  (List.range 625).countP (fun k => inTiming (k / 25) (k % 25)) = 18 ∧
  (List.range 625).countP (fun k => inAlign (k / 25) (k % 25)) = 25 ∧
  (List.range 625).countP (fun k => inFormat (k / 25) (k % 25)) = 31

/-- R165 (the spec's own derivation): from a state with no symbol error and the own flags of two different placements
clear, whatever other patterns are placed (and, where PLACE_FORMAT is one of the two, a mask with a formula), both
succeed in either order and leave the same state but for the response. -/
def Obligations.PlacementOrderDoesNotMatter : Prop :=
  ∀ a ∈ placements, ∀ b ∈ placements, a ≠ b → ∀ s : State,
    s.symerr = 0 → OwnFlagClear a s.flags → OwnFlagClear b s.flags →
    (a = .placeFormat ∨ b = .placeFormat → s.mask.toNat ≤ 7) →
    ∃ s1 s2 t1 t2, exec a s = .next s1 ∧ exec b s1 = .next s2 ∧ exec b s = .next t1 ∧ exec a t1 = .next t2 ∧
      s2.symerr = 0 ∧ { s2 with response := none } = { t2 with response := none }

/-! ### The data mapper -/

/-- R129, with the formulas of R123: MASK_EVAL answers INVALID_MASK_PATTERN for an id above 7, else 1 exactly when the formula holds, and
changes nothing, SYMERR included. -/
def Obligations.MaskEvalCommand : Prop :=
  (∀ (id row col : Byte) (s : State), exec (.maskEval id row col) s = .next
    (if id.toNat > 7 then answered s 0x04 0
     else answered s 0x00 (if maskHolds id.toNat row.toNat col.toNat then 1 else 0))) ∧
  (∀ v : Operand, Runs (0x28#8 ++ v)
    (.maskEval (BitVec.ofNat 8 (v.toNat / 65536)) (BitVec.ofNat 8 (v.toNat / 256)) (BitVec.ofNat 8 v.toNat)))

/-- R124, R125, R126, R130: MAP_DATA. It completes exactly when the symbol is valid, the four patterns are placed, it
has not run and MASK has a formula; then the k-th Unset cell in zig-zag order is Dark exactly when stream bit k and
the mask differ, every other cell stays, MAP is set, and the answer is the number of cells beyond the stream. -/
def Obligations.MapDataCommand : Prop :=
  (∀ s : State, exec .mapData s = .next
    (if s.symerr ≠ 0 then answered s 0x06 0
     else if s.flags ≠ ⟨true, true, true, true, false⟩ then answered { s with symerr := 0x03 } 0x03 0
     else if s.mask.toNat > 7 then answered { s with symerr := 0x04 } 0x04 0
     else answered
      { s with
        m := tabulate fun r c =>
          if (r, c) ∈ mapOrder s.m then dataColour s ((mapOrder s.m).idxOf (r, c)) (r, c) else readCell s.m r c
        flags := { s.flags with map := true } }
      0x00 (BitVec.ofNat 24 ((mapOrder s.m).length - 8 * (s.dlen.toNat + s.eclen.toNat))))) ∧
  EncodedN 0x29 .mapData

/-- R127 (the spec's own derivation), of the model's own traversal and loop: with exactly the structural cells set,
MAP_DATA's loop yields 359 cells and gives the k-th of them the k-th bit under the mask; the column pairs yield 32, 32,
22, 22, 43, 48, 48, 48, 16, 16, 16 and 16; codeword 0's eight cells come first, and with a full stream of 352 bits the
seven remainder cells last. -/
def Obligations.TraversalYieldsTheDataCells : Prop :=
  ∀ m : Grid,
    (∀ r < 25, ∀ c < 25, (readCell m r c ≠ .unset ↔
      (inFinder r c || inTiming r c || inAlign r c || inFormat r c) = true)) →
    (∀ (bit : Nat → Bool) (mask : Nat), (mapLoop bit mask visitOrder m 0).2 = 359 ∧
      ∀ k < 359, readCell (mapLoop bit mask visitOrder m 0).1 ((yielded m).getD k (0, 0)).1
          ((yielded m).getD k (0, 0)).2 =
        cellOf (bit k ^^ maskFn mask ((yielded m).getD k (0, 0)).1 ((yielded m).getD k (0, 0)).2)) ∧
    (columnPairs 25 24 true).map
        (fun p => (pairCells p).countP fun q => decide (readCell m q.1 q.2 = .unset)) =
      [32, 32, 22, 22, 43, 48, 48, 48, 16, 16, 16, 16] ∧
    (yielded m).length = 359 ∧
    (yielded m).take 8 =
      [(24, 24), (24, 23), (23, 24), (23, 23), (22, 24), (22, 23), (21, 24), (21, 23)] ∧
    (yielded m).drop 352 = [(13, 0), (14, 1), (14, 0), (15, 1), (15, 0), (16, 1), (16, 0)]

/-- R128 (the spec's own derivation): in a sound state where MAP_DATA is due, it completes, and afterwards no cell is
Unset and VALID reads 1. -/
def Obligations.MapDataLeavesNoCellUnset : Prop :=
  ∀ s : State, s.Inv → s.symerr = 0 → s.flags = ⟨true, true, true, true, false⟩ →
    ∃ t, exec .mapData s = .next t ∧ (∀ r < 25, ∀ c < 25, readCell t.m r c ≠ .unset) ∧
      ∃ u, exec (.regRead 0) t = .next u ∧ u.response = some 0x0000003F

/-- From R62 and R128: in a sound state whose symbol is complete (VALID = 1), its content is 625 codes, each 1 (Light) or
2 (Dark). -/
def Obligations.CompleteSymbolIsLightOrDark : Prop :=
  ∀ s : State, s.Inv → symbolComplete s = true →
    (symbolCodes s).length = 625 ∧ ∀ code ∈ symbolCodes s, code = 1 ∨ code = 2

/-! ### Control -/

/-- R131: SET_MASK stores any byte while no construction flag is set, else answers SEQUENCE_ERROR without touching
SYMERR, and changes nothing else. -/
def Obligations.SetMaskCommand : Prop :=
  (∀ (id : Byte) (s : State), exec (.setMask id) s = .next
    (if s.flags = ⟨false, false, false, false, false⟩ then answered { s with mask := id } 0x00 0
     else answered s 0x03 0)) ∧
  EncodedB8 0x30 .setMask

/-- R30, R132: REG_READ answers the register of a selector 0x00..0x0B, BAD_OPERAND above, also while SYMERR is
not 0, and changes nothing. -/
def Obligations.RegReadCommand : Prop :=
  (∀ (sel : Byte) (s : State), exec (.regRead sel) s = .next
    (if sel.toNat ≤ 0x0B then answered s 0x00 (BitVec.ofNat 24 ((registers s).getD sel.toNat 0))
     else answered s 0x02 0)) ∧
  EncodedB8 0x31 .regRead

/-! ### Errors -/

/-- R149, with the SYMERR write of R146: a command that answers a status other than OK has RESULT 0 and changes nothing
but the response, and SYMERR, which becomes the status when a construction command answers SEQUENCE_ERROR (3) or
INVALID_MASK_PATTERN (4) and otherwise stays. -/
def Obligations.ErrorsArePrecise : Prop :=
  ∀ (i : Instr) (s : State), ∃ (t : State) (status : Byte) (result : Operand),
    exec i s = .next t ∧ t.response = some (status ++ result) ∧
    (status ≠ 0 → result = 0 ∧ t = { s with
      response := t.response
      symerr := if isConstruction i = true ∧ (status = 3 ∨ status = 4) then status else s.symerr })

/-- R143 (the spec's own derivation): the status codes each command can return. -/
def Obligations.StatusCodesPerCommand : Prop :=
  ∀ (i : Instr) (s : State), ∃ (t : State) (status : Byte) (result : Operand),
    exec i s = .next t ∧ t.response = some (status ++ result) ∧ status ∈ allowedStatus i

/-- From R146: a command changes SYMERR only as the first failure of a construction command, which answers what it stores
(3 or 4), or, clearing it, as MATRIX_CLEAR. -/
def Obligations.SymerrRecordsTheFirstFailure : Prop :=
  ∀ (i : Instr) (s : State), ∃ t, exec i s = .next t ∧
    (t.symerr = s.symerr ∨ (i = .matrixClear ∧ t.symerr = 0) ∨
      (isConstruction i = true ∧ s.symerr = 0 ∧ (t.symerr = 3 ∨ t.symerr = 4) ∧
        t.response = some (t.symerr ++ (0 : Operand))))

/-- From R147 and R148: while SYMERR is not 0, the five construction commands, and MOD_READ with a cell inside the matrix, answer
SYMBOL_INVALID and change nothing. -/
def Obligations.SymbolInvalidHidesTheMatrix : Prop :=
  ∀ (i : Instr) (s : State), s.symerr ≠ 0 →
    (isConstruction i = true ∨ ∃ row col : Byte, row.toNat ≤ 24 ∧ col.toNat ≤ 24 ∧ i = .modRead row col) →
    exec i s = .next (answered s 0x06 0)

/-! ### Invariants -/

/-- R39 at reset, with any command sequence still to be issued. -/
def Obligations.ResetMeetsTheInvariant : Prop :=
  ∀ events : List HostEvent, ({ State.reset with pending := events } : State).Inv

/-- R39: every step, from every state that meets the invariant, leaves a state that meets it. -/
def Obligations.StepKeepsTheInvariant : Prop :=
  ∀ s t : State, s.Inv → step s = .next t → t.Inv

/-- From R131 and R170: no command changes MASK while a construction flag is set. -/
def Obligations.MaskIsFixedDuringConstruction : Prop :=
  ∀ (i : Instr) (s t : State), s.flags ≠ ⟨false, false, false, false, false⟩ → exec i s = .next t → t.mask = s.mask

/-- From R109 and R145: in a sound state with MAP set, only MATRIX_CLEAR changes the matrix. -/
def Obligations.MappedMatrixIsSealed : Prop :=
  ∀ (i : Instr) (s t : State), s.Inv → s.flags.map = true → i ≠ .matrixClear → exec i s = .next t → t.m = s.m

/-- R116, R166: in a sound state no command but MATRIX_CLEAR changes a cell that is set: every cell is set at most once
a symbol. -/
def Obligations.SetCellsAreNeverRevisited : Prop :=
  ∀ (i : Instr) (s t : State), s.Inv → i ≠ .matrixClear → exec i s = .next t →
    ∀ r < 25, ∀ c < 25, readCell s.m r c ≠ .unset → readCell t.m r c = readCell s.m r c

/-! ### Frames -/

/-- From R51: GF_EXP, GF_LOG, BCH_FMT, MASK_EVAL, CW_READ, GEN_READ, MOD_READ and REG_READ leave every register, flag, cell
and codeword as it was. -/
def Obligations.ReadersChangeOnlyTheResponse : Prop :=
  ∀ (i : Instr) (s t : State), isReader i = true → exec i s = .next t → t = { s with response := t.response }

/-- The frame of CW_WRITE, SET_DLEN and RS_ENCODE: the symbol state (M, FLAGS, FMT, SYMERR) and MASK are untouched, and
so is every codeword but CW_WRITE's and RS_ENCODE's ten after the data segment (none with DLEN = 0); CW_WRITE leaves
DLEN and ECLEN, RS_ENCODE leaves DLEN, SET_DLEN leaves CW. -/
def Obligations.CodewordCommandsFrame : Prop :=
  (∀ (idx val : Byte) (s t : State), exec (.cwWrite idx val) s = .next t →
    t = { s with cw := t.cw, response := t.response } ∧
    ∀ i, i ≠ idx.toNat → readCw t.cw i = readCw s.cw i) ∧
  (∀ (n : Byte) (s t : State), exec (.setDlen n) s = .next t →
    t = { s with dlen := t.dlen, eclen := t.eclen, response := t.response }) ∧
  (∀ s t : State, exec .rsEncode s = .next t →
    t = { s with cw := t.cw, eclen := t.eclen, response := t.response } ∧ (s.dlen = 0 → t.cw = s.cw) ∧
    ∀ i, i < s.dlen.toNat ∨ s.dlen.toNat + 10 ≤ i → readCw t.cw i = readCw s.cw i)

/-- The frame of the construction commands and MATRIX_CLEAR: CW, DLEN, ECLEN and MASK are untouched; each placement
leaves the cells outside its pattern set and the flags other than its own, and only PLACE_FORMAT writes FMT. -/
def Obligations.SymbolCommandsFrame : Prop :=
  (∀ (i : Instr) (s t : State), (isConstruction i = true ∨ i = .matrixClear) → exec i s = .next t →
    t = { s with m := t.m, flags := t.flags, fmt := t.fmt, symerr := t.symerr, response := t.response }) ∧
  (∀ s t : State, exec .placeFinders s = .next t →
    t.fmt = s.fmt ∧ t.flags = { s.flags with find := t.flags.find } ∧
    ∀ r < 25, ∀ c < 25, inFinder r c = false → readCell t.m r c = readCell s.m r c) ∧
  (∀ s t : State, exec .placeTiming s = .next t →
    t.fmt = s.fmt ∧ t.flags = { s.flags with tim := t.flags.tim } ∧
    ∀ r < 25, ∀ c < 25, inTiming r c = false → readCell t.m r c = readCell s.m r c) ∧
  (∀ s t : State, exec .placeAlign s = .next t →
    t.fmt = s.fmt ∧ t.flags = { s.flags with aln := t.flags.aln } ∧
    ∀ r < 25, ∀ c < 25, inAlign r c = false → readCell t.m r c = readCell s.m r c) ∧
  (∀ s t : State, exec .placeFormat s = .next t →
    t.flags = { s.flags with fmtp := t.flags.fmtp } ∧
    ∀ r < 25, ∀ c < 25, inFormat r c = false → readCell t.m r c = readCell s.m r c) ∧
  (∀ s t : State, exec .mapData s = .next t →
    t.fmt = s.fmt ∧ t.flags = { s.flags with map := t.flags.map } ∧
    ∀ r < 25, ∀ c < 25, readCell s.m r c ≠ .unset → readCell t.m r c = readCell s.m r c)

/-- The frame of SET_MASK: MASK and the response are all it can change. -/
def Obligations.SetMaskFrame : Prop :=
  ∀ (id : Byte) (s t : State), exec (.setMask id) s = .next t →
    t = { s with mask := t.mask, response := t.response }

/-! ### Noninterference -/

/-- From R46: a command that does not read the buffer's contents answers the same, and leaves the same state but for CW,
whatever CW holds; so the unspecified contents after reset cannot show through it. -/
def Obligations.BufferContentsStayHidden : Prop :=
  ∀ (i : Instr) (s : State) (v : Codewords), readsCodewords i = false →
    ∃ t u, exec i s = .next t ∧ exec i { s with cw := v } = .next u ∧ { u with cw := t.cw } = t

/-- R24, R99, R104, R130: RS_ENCODE depends on CW only through CW[0..DLEN-1], MAP_DATA only through the codeword stream
CW[0..DLEN+ECLEN-1]. -/
def Obligations.StreamReadersSeeOnlyTheStream : Prop :=
  (∀ (s : State) (v : Codewords), (∀ i < s.dlen.toNat, readCw v i = readCw s.cw i) →
    ∃ t u, exec .rsEncode s = .next t ∧ exec .rsEncode { s with cw := v } = .next u ∧
      { u with cw := t.cw } = t ∧ ∀ k < t.eclen.toNat,
        readCw u.cw (s.dlen.toNat + k) = readCw t.cw (s.dlen.toNat + k)) ∧
  (∀ (s : State) (v : Codewords), (∀ i < s.dlen.toNat + s.eclen.toNat, readCw v i = readCw s.cw i) →
    ∃ t u, exec .mapData s = .next t ∧ exec .mapData { s with cw := v } = .next u ∧ { u with cw := t.cw } = t)

/-! ### The host's payload procedure -/

/-- R133, R135, R139 (host software, outside the block): a string of at most 32 characters gives 34 bytes, none of them
255 with the clamp on, and a longer one CapacityExceeded. -/
def Obligations.PayloadFillsTheDataSegmentOrFails : Prop :=
  (∀ (clamp : Bool) (chars : List Byte), chars.length ≤ 32 → ∃ d, encodeData clamp chars = .ok d ∧ d.length = 34 ∧
    (clamp = true → ∀ b ∈ d, b ≠ 255)) ∧
  (∀ (clamp : Bool) (chars : List Byte), chars.length > 32 → encodeData clamp chars = .error .capacityExceeded)
end

