-- ==== Sys2Proof/Laws/State.lean ====
section
/-! SUPPORT. One lemma per field per update of the state and of its flags, so that no proof unfolds an update, and the
eta lemma of each update of a field to the value it has. -/

namespace Sys2Proof.Machine

/-! ### setCw -/

@[simp] theorem State.setCw_cw (s : State) (v : Codewords) : (s.setCw v).cw = v := rfl
@[simp] theorem State.setCw_dlen (s : State) (v : Codewords) : (s.setCw v).dlen = s.dlen := rfl
@[simp] theorem State.setCw_eclen (s : State) (v : Codewords) : (s.setCw v).eclen = s.eclen := rfl
@[simp] theorem State.setCw_m (s : State) (v : Codewords) : (s.setCw v).m = s.m := rfl
@[simp] theorem State.setCw_mask (s : State) (v : Codewords) : (s.setCw v).mask = s.mask := rfl
@[simp] theorem State.setCw_fmt (s : State) (v : Codewords) : (s.setCw v).fmt = s.fmt := rfl
@[simp] theorem State.setCw_flags (s : State) (v : Codewords) : (s.setCw v).flags = s.flags := rfl
@[simp] theorem State.setCw_symerr (s : State) (v : Codewords) : (s.setCw v).symerr = s.symerr := rfl
@[simp] theorem State.setCw_pending (s : State) (v : Codewords) : (s.setCw v).pending = s.pending := rfl
@[simp] theorem State.setCw_response (s : State) (v : Codewords) : (s.setCw v).response = s.response := rfl
@[simp] theorem State.setCw_resets (s : State) (v : Codewords) : (s.setCw v).resets = s.resets := rfl
@[simp] theorem State.setCw_self (s : State) : s.setCw s.cw = s := rfl
@[simp] theorem State.setCw_setCw (s : State) (v w : Codewords) : (s.setCw v).setCw w = s.setCw w := rfl

/-! ### setDlen -/

@[simp] theorem State.setDlen_cw (s : State) (v : BitVec 6) : (s.setDlen v).cw = s.cw := rfl
@[simp] theorem State.setDlen_dlen (s : State) (v : BitVec 6) : (s.setDlen v).dlen = v := rfl
@[simp] theorem State.setDlen_eclen (s : State) (v : BitVec 6) : (s.setDlen v).eclen = s.eclen := rfl
@[simp] theorem State.setDlen_m (s : State) (v : BitVec 6) : (s.setDlen v).m = s.m := rfl
@[simp] theorem State.setDlen_mask (s : State) (v : BitVec 6) : (s.setDlen v).mask = s.mask := rfl
@[simp] theorem State.setDlen_fmt (s : State) (v : BitVec 6) : (s.setDlen v).fmt = s.fmt := rfl
@[simp] theorem State.setDlen_flags (s : State) (v : BitVec 6) : (s.setDlen v).flags = s.flags := rfl
@[simp] theorem State.setDlen_symerr (s : State) (v : BitVec 6) : (s.setDlen v).symerr = s.symerr := rfl
@[simp] theorem State.setDlen_pending (s : State) (v : BitVec 6) : (s.setDlen v).pending = s.pending := rfl
@[simp] theorem State.setDlen_response (s : State) (v : BitVec 6) : (s.setDlen v).response = s.response := rfl
@[simp] theorem State.setDlen_resets (s : State) (v : BitVec 6) : (s.setDlen v).resets = s.resets := rfl
@[simp] theorem State.setDlen_self (s : State) : s.setDlen s.dlen = s := rfl
@[simp] theorem State.setDlen_setDlen (s : State) (v w : BitVec 6) : (s.setDlen v).setDlen w = s.setDlen w := rfl

/-! ### setEclen -/

@[simp] theorem State.setEclen_cw (s : State) (v : BitVec 4) : (s.setEclen v).cw = s.cw := rfl
@[simp] theorem State.setEclen_dlen (s : State) (v : BitVec 4) : (s.setEclen v).dlen = s.dlen := rfl
@[simp] theorem State.setEclen_eclen (s : State) (v : BitVec 4) : (s.setEclen v).eclen = v := rfl
@[simp] theorem State.setEclen_m (s : State) (v : BitVec 4) : (s.setEclen v).m = s.m := rfl
@[simp] theorem State.setEclen_mask (s : State) (v : BitVec 4) : (s.setEclen v).mask = s.mask := rfl
@[simp] theorem State.setEclen_fmt (s : State) (v : BitVec 4) : (s.setEclen v).fmt = s.fmt := rfl
@[simp] theorem State.setEclen_flags (s : State) (v : BitVec 4) : (s.setEclen v).flags = s.flags := rfl
@[simp] theorem State.setEclen_symerr (s : State) (v : BitVec 4) : (s.setEclen v).symerr = s.symerr := rfl
@[simp] theorem State.setEclen_pending (s : State) (v : BitVec 4) : (s.setEclen v).pending = s.pending := rfl
@[simp] theorem State.setEclen_response (s : State) (v : BitVec 4) : (s.setEclen v).response = s.response := rfl
@[simp] theorem State.setEclen_resets (s : State) (v : BitVec 4) : (s.setEclen v).resets = s.resets := rfl
@[simp] theorem State.setEclen_self (s : State) : s.setEclen s.eclen = s := rfl
@[simp] theorem State.setEclen_setEclen (s : State) (v w : BitVec 4) : (s.setEclen v).setEclen w = s.setEclen w := rfl

/-! ### setM -/

@[simp] theorem State.setM_cw (s : State) (v : Grid) : (s.setM v).cw = s.cw := rfl
@[simp] theorem State.setM_dlen (s : State) (v : Grid) : (s.setM v).dlen = s.dlen := rfl
@[simp] theorem State.setM_eclen (s : State) (v : Grid) : (s.setM v).eclen = s.eclen := rfl
@[simp] theorem State.setM_m (s : State) (v : Grid) : (s.setM v).m = v := rfl
@[simp] theorem State.setM_mask (s : State) (v : Grid) : (s.setM v).mask = s.mask := rfl
@[simp] theorem State.setM_fmt (s : State) (v : Grid) : (s.setM v).fmt = s.fmt := rfl
@[simp] theorem State.setM_flags (s : State) (v : Grid) : (s.setM v).flags = s.flags := rfl
@[simp] theorem State.setM_symerr (s : State) (v : Grid) : (s.setM v).symerr = s.symerr := rfl
@[simp] theorem State.setM_pending (s : State) (v : Grid) : (s.setM v).pending = s.pending := rfl
@[simp] theorem State.setM_response (s : State) (v : Grid) : (s.setM v).response = s.response := rfl
@[simp] theorem State.setM_resets (s : State) (v : Grid) : (s.setM v).resets = s.resets := rfl
@[simp] theorem State.setM_self (s : State) : s.setM s.m = s := rfl
@[simp] theorem State.setM_setM (s : State) (v w : Grid) : (s.setM v).setM w = s.setM w := rfl

/-! ### setMask -/

@[simp] theorem State.setMask_cw (s : State) (v : Byte) : (s.setMask v).cw = s.cw := rfl
@[simp] theorem State.setMask_dlen (s : State) (v : Byte) : (s.setMask v).dlen = s.dlen := rfl
@[simp] theorem State.setMask_eclen (s : State) (v : Byte) : (s.setMask v).eclen = s.eclen := rfl
@[simp] theorem State.setMask_m (s : State) (v : Byte) : (s.setMask v).m = s.m := rfl
@[simp] theorem State.setMask_mask (s : State) (v : Byte) : (s.setMask v).mask = v := rfl
@[simp] theorem State.setMask_fmt (s : State) (v : Byte) : (s.setMask v).fmt = s.fmt := rfl
@[simp] theorem State.setMask_flags (s : State) (v : Byte) : (s.setMask v).flags = s.flags := rfl
@[simp] theorem State.setMask_symerr (s : State) (v : Byte) : (s.setMask v).symerr = s.symerr := rfl
@[simp] theorem State.setMask_pending (s : State) (v : Byte) : (s.setMask v).pending = s.pending := rfl
@[simp] theorem State.setMask_response (s : State) (v : Byte) : (s.setMask v).response = s.response := rfl
@[simp] theorem State.setMask_resets (s : State) (v : Byte) : (s.setMask v).resets = s.resets := rfl
@[simp] theorem State.setMask_self (s : State) : s.setMask s.mask = s := rfl
@[simp] theorem State.setMask_setMask (s : State) (v w : Byte) : (s.setMask v).setMask w = s.setMask w := rfl

/-! ### setFmt -/

@[simp] theorem State.setFmt_cw (s : State) (v : BitVec 15) : (s.setFmt v).cw = s.cw := rfl
@[simp] theorem State.setFmt_dlen (s : State) (v : BitVec 15) : (s.setFmt v).dlen = s.dlen := rfl
@[simp] theorem State.setFmt_eclen (s : State) (v : BitVec 15) : (s.setFmt v).eclen = s.eclen := rfl
@[simp] theorem State.setFmt_m (s : State) (v : BitVec 15) : (s.setFmt v).m = s.m := rfl
@[simp] theorem State.setFmt_mask (s : State) (v : BitVec 15) : (s.setFmt v).mask = s.mask := rfl
@[simp] theorem State.setFmt_fmt (s : State) (v : BitVec 15) : (s.setFmt v).fmt = v := rfl
@[simp] theorem State.setFmt_flags (s : State) (v : BitVec 15) : (s.setFmt v).flags = s.flags := rfl
@[simp] theorem State.setFmt_symerr (s : State) (v : BitVec 15) : (s.setFmt v).symerr = s.symerr := rfl
@[simp] theorem State.setFmt_pending (s : State) (v : BitVec 15) : (s.setFmt v).pending = s.pending := rfl
@[simp] theorem State.setFmt_response (s : State) (v : BitVec 15) : (s.setFmt v).response = s.response := rfl
@[simp] theorem State.setFmt_resets (s : State) (v : BitVec 15) : (s.setFmt v).resets = s.resets := rfl
@[simp] theorem State.setFmt_self (s : State) : s.setFmt s.fmt = s := rfl
@[simp] theorem State.setFmt_setFmt (s : State) (v w : BitVec 15) : (s.setFmt v).setFmt w = s.setFmt w := rfl

/-! ### setFlags -/

@[simp] theorem State.setFlags_cw (s : State) (v : Flags) : (s.setFlags v).cw = s.cw := rfl
@[simp] theorem State.setFlags_dlen (s : State) (v : Flags) : (s.setFlags v).dlen = s.dlen := rfl
@[simp] theorem State.setFlags_eclen (s : State) (v : Flags) : (s.setFlags v).eclen = s.eclen := rfl
@[simp] theorem State.setFlags_m (s : State) (v : Flags) : (s.setFlags v).m = s.m := rfl
@[simp] theorem State.setFlags_mask (s : State) (v : Flags) : (s.setFlags v).mask = s.mask := rfl
@[simp] theorem State.setFlags_fmt (s : State) (v : Flags) : (s.setFlags v).fmt = s.fmt := rfl
@[simp] theorem State.setFlags_flags (s : State) (v : Flags) : (s.setFlags v).flags = v := rfl
@[simp] theorem State.setFlags_symerr (s : State) (v : Flags) : (s.setFlags v).symerr = s.symerr := rfl
@[simp] theorem State.setFlags_pending (s : State) (v : Flags) : (s.setFlags v).pending = s.pending := rfl
@[simp] theorem State.setFlags_response (s : State) (v : Flags) : (s.setFlags v).response = s.response := rfl
@[simp] theorem State.setFlags_resets (s : State) (v : Flags) : (s.setFlags v).resets = s.resets := rfl
@[simp] theorem State.setFlags_self (s : State) : s.setFlags s.flags = s := rfl
@[simp] theorem State.setFlags_setFlags (s : State) (v w : Flags) : (s.setFlags v).setFlags w = s.setFlags w := rfl

/-! ### setSymerr -/

@[simp] theorem State.setSymerr_cw (s : State) (v : Byte) : (s.setSymerr v).cw = s.cw := rfl
@[simp] theorem State.setSymerr_dlen (s : State) (v : Byte) : (s.setSymerr v).dlen = s.dlen := rfl
@[simp] theorem State.setSymerr_eclen (s : State) (v : Byte) : (s.setSymerr v).eclen = s.eclen := rfl
@[simp] theorem State.setSymerr_m (s : State) (v : Byte) : (s.setSymerr v).m = s.m := rfl
@[simp] theorem State.setSymerr_mask (s : State) (v : Byte) : (s.setSymerr v).mask = s.mask := rfl
@[simp] theorem State.setSymerr_fmt (s : State) (v : Byte) : (s.setSymerr v).fmt = s.fmt := rfl
@[simp] theorem State.setSymerr_flags (s : State) (v : Byte) : (s.setSymerr v).flags = s.flags := rfl
@[simp] theorem State.setSymerr_symerr (s : State) (v : Byte) : (s.setSymerr v).symerr = v := rfl
@[simp] theorem State.setSymerr_pending (s : State) (v : Byte) : (s.setSymerr v).pending = s.pending := rfl
@[simp] theorem State.setSymerr_response (s : State) (v : Byte) : (s.setSymerr v).response = s.response := rfl
@[simp] theorem State.setSymerr_resets (s : State) (v : Byte) : (s.setSymerr v).resets = s.resets := rfl
@[simp] theorem State.setSymerr_self (s : State) : s.setSymerr s.symerr = s := rfl
@[simp] theorem State.setSymerr_setSymerr (s : State) (v w : Byte) : (s.setSymerr v).setSymerr w = s.setSymerr w := rfl

/-! ### setPending -/

@[simp] theorem State.setPending_cw (s : State) (v : List HostEvent) : (s.setPending v).cw = s.cw := rfl
@[simp] theorem State.setPending_dlen (s : State) (v : List HostEvent) : (s.setPending v).dlen = s.dlen := rfl
@[simp] theorem State.setPending_eclen (s : State) (v : List HostEvent) : (s.setPending v).eclen = s.eclen := rfl
@[simp] theorem State.setPending_m (s : State) (v : List HostEvent) : (s.setPending v).m = s.m := rfl
@[simp] theorem State.setPending_mask (s : State) (v : List HostEvent) : (s.setPending v).mask = s.mask := rfl
@[simp] theorem State.setPending_fmt (s : State) (v : List HostEvent) : (s.setPending v).fmt = s.fmt := rfl
@[simp] theorem State.setPending_flags (s : State) (v : List HostEvent) : (s.setPending v).flags = s.flags := rfl
@[simp] theorem State.setPending_symerr (s : State) (v : List HostEvent) : (s.setPending v).symerr = s.symerr := rfl
@[simp] theorem State.setPending_pending (s : State) (v : List HostEvent) : (s.setPending v).pending = v := rfl
@[simp] theorem State.setPending_response (s : State) (v : List HostEvent) : (s.setPending v).response = s.response := rfl
@[simp] theorem State.setPending_resets (s : State) (v : List HostEvent) : (s.setPending v).resets = s.resets := rfl
@[simp] theorem State.setPending_self (s : State) : s.setPending s.pending = s := rfl
@[simp] theorem State.setPending_setPending (s : State) (v w : List HostEvent) : (s.setPending v).setPending w = s.setPending w := rfl

/-! ### setResponse -/

@[simp] theorem State.setResponse_cw (s : State) (v : Option Word) : (s.setResponse v).cw = s.cw := rfl
@[simp] theorem State.setResponse_dlen (s : State) (v : Option Word) : (s.setResponse v).dlen = s.dlen := rfl
@[simp] theorem State.setResponse_eclen (s : State) (v : Option Word) : (s.setResponse v).eclen = s.eclen := rfl
@[simp] theorem State.setResponse_m (s : State) (v : Option Word) : (s.setResponse v).m = s.m := rfl
@[simp] theorem State.setResponse_mask (s : State) (v : Option Word) : (s.setResponse v).mask = s.mask := rfl
@[simp] theorem State.setResponse_fmt (s : State) (v : Option Word) : (s.setResponse v).fmt = s.fmt := rfl
@[simp] theorem State.setResponse_flags (s : State) (v : Option Word) : (s.setResponse v).flags = s.flags := rfl
@[simp] theorem State.setResponse_symerr (s : State) (v : Option Word) : (s.setResponse v).symerr = s.symerr := rfl
@[simp] theorem State.setResponse_pending (s : State) (v : Option Word) : (s.setResponse v).pending = s.pending := rfl
@[simp] theorem State.setResponse_response (s : State) (v : Option Word) : (s.setResponse v).response = v := rfl
@[simp] theorem State.setResponse_resets (s : State) (v : Option Word) : (s.setResponse v).resets = s.resets := rfl
@[simp] theorem State.setResponse_self (s : State) : s.setResponse s.response = s := rfl
@[simp] theorem State.setResponse_setResponse (s : State) (v w : Option Word) : (s.setResponse v).setResponse w = s.setResponse w := rfl

/-! ### Flags -/

@[simp] theorem Flags.setFind_find (f : Flags) : f.setFind.find = true := rfl
@[simp] theorem Flags.setFind_tim (f : Flags) : f.setFind.tim = f.tim := rfl
@[simp] theorem Flags.setFind_aln (f : Flags) : f.setFind.aln = f.aln := rfl
@[simp] theorem Flags.setFind_fmtp (f : Flags) : f.setFind.fmtp = f.fmtp := rfl
@[simp] theorem Flags.setFind_map (f : Flags) : f.setFind.map = f.map := rfl
@[simp] theorem Flags.setTim_find (f : Flags) : f.setTim.find = f.find := rfl
@[simp] theorem Flags.setTim_tim (f : Flags) : f.setTim.tim = true := rfl
@[simp] theorem Flags.setTim_aln (f : Flags) : f.setTim.aln = f.aln := rfl
@[simp] theorem Flags.setTim_fmtp (f : Flags) : f.setTim.fmtp = f.fmtp := rfl
@[simp] theorem Flags.setTim_map (f : Flags) : f.setTim.map = f.map := rfl
@[simp] theorem Flags.setAln_find (f : Flags) : f.setAln.find = f.find := rfl
@[simp] theorem Flags.setAln_tim (f : Flags) : f.setAln.tim = f.tim := rfl
@[simp] theorem Flags.setAln_aln (f : Flags) : f.setAln.aln = true := rfl
@[simp] theorem Flags.setAln_fmtp (f : Flags) : f.setAln.fmtp = f.fmtp := rfl
@[simp] theorem Flags.setAln_map (f : Flags) : f.setAln.map = f.map := rfl
@[simp] theorem Flags.setFmtp_find (f : Flags) : f.setFmtp.find = f.find := rfl
@[simp] theorem Flags.setFmtp_tim (f : Flags) : f.setFmtp.tim = f.tim := rfl
@[simp] theorem Flags.setFmtp_aln (f : Flags) : f.setFmtp.aln = f.aln := rfl
@[simp] theorem Flags.setFmtp_fmtp (f : Flags) : f.setFmtp.fmtp = true := rfl
@[simp] theorem Flags.setFmtp_map (f : Flags) : f.setFmtp.map = f.map := rfl
@[simp] theorem Flags.setMap_find (f : Flags) : f.setMap.find = f.find := rfl
@[simp] theorem Flags.setMap_tim (f : Flags) : f.setMap.tim = f.tim := rfl
@[simp] theorem Flags.setMap_aln (f : Flags) : f.setMap.aln = f.aln := rfl
@[simp] theorem Flags.setMap_fmtp (f : Flags) : f.setMap.fmtp = f.fmtp := rfl
@[simp] theorem Flags.setMap_map (f : Flags) : f.setMap.map = true := rfl

@[simp] theorem Flags.clear_find : Flags.clear.find = false := rfl
@[simp] theorem Flags.clear_tim : Flags.clear.tim = false := rfl
@[simp] theorem Flags.clear_aln : Flags.clear.aln = false := rfl
@[simp] theorem Flags.clear_fmtp : Flags.clear.fmtp = false := rfl
@[simp] theorem Flags.clear_map : Flags.clear.map = false := rfl

/-! ### The reset state (70_reset_and_hazards.md R161) -/

@[simp] theorem State.reset_cw : State.reset.cw = Codewords.unspecified 0 := rfl
@[simp] theorem State.reset_dlen : State.reset.dlen = 0 := rfl
@[simp] theorem State.reset_eclen : State.reset.eclen = 0 := rfl
@[simp] theorem State.reset_m : State.reset.m = Grid.allUnset := rfl
@[simp] theorem State.reset_mask : State.reset.mask = 7 := rfl
@[simp] theorem State.reset_fmt : State.reset.fmt = 0 := rfl
@[simp] theorem State.reset_flags : State.reset.flags = Flags.clear := rfl
@[simp] theorem State.reset_symerr : State.reset.symerr = 0 := rfl
@[simp] theorem State.reset_pending : State.reset.pending = [] := rfl
@[simp] theorem State.reset_response : State.reset.response = none := rfl
@[simp] theorem State.reset_resets : State.reset.resets = 0 := rfl

end Sys2Proof.Machine
end

