-- ==== Sys2Proof/Laws/Ops.lean ====
section
/-! SUPPORT. What each shared operation does, said once: the response operations and the construction head, the reads
and writes of CW and M, and the host's side. -/

namespace Sys2Proof.Machine

/-! ### Responses -/

/-- What `respond` answers. -/
theorem respond_next_iff (st : Status) (v : Operand) (s t : State) :
    respond st v s = .next t ↔ t = s.setResponse (some (responseWord st v)) := by
  simp only [respond, Host.Outcome.next.injEq]
  exact eq_comm

/-- What `raise` answers: only the response changes. -/
theorem raise_next_iff (st : Status) (s t : State) :
    raise st s = .next t ↔ t = s.setResponse (some (responseWord st 0)) :=
  respond_next_iff st 0 s t

/-- What `fail` answers: only SYMERR and the response change. -/
theorem fail_next_iff (st : Status) (s t : State) :
    fail st s = .next t ↔ t = (s.setSymerr st.code).setResponse (some (responseWord st 0)) :=
  respond_next_iff st 0 _ t

/-- The three ways a construction command can go (60_exceptions.md R145 to R148). -/
theorem construct_cases (g : Bool) (body : State → Host.Outcome State Fault Refusal) (s : State) :
    (s.symerr ≠ 0 ∧ construct g body s = raise .symbolInvalid s) ∨
    (s.symerr = 0 ∧ g = false ∧ construct g body s = fail .sequenceError s) ∨
    (s.symerr = 0 ∧ g = true ∧ construct g body s = body s) := by
  unfold construct
  by_cases h : s.symerr = 0
  · rw [if_neg (not_not.mpr h)]
    cases g with
    | false => exact .inr (.inl ⟨h, rfl, if_pos rfl⟩)
    | true => exact .inr (.inr ⟨h, rfl, if_neg (by decide)⟩)
  · exact .inl ⟨h, if_pos h⟩

theorem construct_symerr {g : Bool} {body : State → Host.Outcome State Fault Refusal} {s : State}
    (h : s.symerr ≠ 0) : construct g body s = raise .symbolInvalid s :=
  if_pos h

theorem construct_guard {body : State → Host.Outcome State Fault Refusal} {s : State} (h : s.symerr = 0) :
    construct false body s = fail .sequenceError s := by
  rw [construct, if_neg (not_not.mpr h), if_pos rfl]

theorem construct_body {body : State → Host.Outcome State Fault Refusal} {s : State} (h : s.symerr = 0) :
    construct true body s = body s := by
  rw [construct, if_neg (not_not.mpr h), if_neg (by decide)]

/-- Status codes are distinct (R142). -/
theorem Status.code_injective : Function.Injective Status.code := by
  intro a b h
  cases a <;> cases b <;> first | rfl | exact absurd h (by decide)

/-- The upper field of a concatenation. -/
theorem extract_append_upper {m n : Nat} (a : BitVec m) (b : BitVec n) : (a ++ b).extractLsb' n m = a := by
  ext i hi
  simp [BitVec.getLsbD_append, hi]

/-- The lower field of a concatenation. -/
theorem extract_append_lower {m n : Nat} (a : BitVec m) (b : BitVec n) : (a ++ b).extractLsb' 0 n = b := by
  ext i hi
  simp [BitVec.getLsbD_append, hi]

/-- The STATUS field of a response word (R74). -/
@[simp] theorem responseWord_status (st : Status) (v : Operand) :
    (responseWord st v).extractLsb' 24 8 = st.code := extract_append_upper st.code v

/-- The RESULT field of a response word (R74). -/
@[simp] theorem responseWord_result (st : Status) (v : Operand) :
    (responseWord st v).extractLsb' 0 24 = v := extract_append_lower st.code v

/-! ### The codeword buffer -/

theorem readCw_of_lt (v : Codewords) {i : Nat} (h : i < 44) : readCw v i = v[i] := by
  simp [readCw, h]

theorem readCw_of_ge (v : Codewords) {i : Nat} (h : 44 ≤ i) : readCw v i = 0 := by
  simp [readCw, Nat.not_lt.mpr h]

/-- A read after one write. -/
theorem readCw_writeCw (v : Codewords) (i j : Nat) (b : Byte) :
    readCw (writeCw v i b) j = if i = j ∧ j < 44 then b else readCw v j := by
  by_cases hj : j < 44
  · simp only [readCw_of_lt _ hj, writeCw, Vector.getElem_setIfInBounds, hj, and_true]
  · simp [readCw_of_ge _ (Nat.le_of_not_lt hj), hj]

/-- A read after the writes of consecutive entries. -/
theorem readCw_writeCwFrom (bs : List Byte) : ∀ (v : Codewords) (a j : Nat),
    readCw (writeCwFrom v a bs) j =
      if a ≤ j ∧ j < a + bs.length ∧ j < 44 then bs.getD (j - a) 0 else readCw v j := by
  induction bs with
  | nil =>
    intro v a j
    have : ¬(a ≤ j ∧ j < a + ([] : List Byte).length ∧ j < 44) := by simp; omega
    rw [if_neg this]; rfl
  | cons b bs ih =>
    intro v a j
    rw [writeCwFrom, ih, readCw_writeCw]
    simp only [List.length_cons]
    by_cases h1 : a = j
    · subst h1
      by_cases h2 : a < 44
      · simp [h2]
      · simp [h2]
    · have e : (a + 1 ≤ j ∧ j < a + 1 + bs.length ∧ j < 44) ↔ (a ≤ j ∧ j < a + (bs.length + 1) ∧ j < 44) := by
        omega
      by_cases h2 : a ≤ j ∧ j < a + (bs.length + 1) ∧ j < 44
      · obtain ⟨k, rfl⟩ : ∃ k, j = a + 1 + k := ⟨j - (a + 1), by omega⟩
        have e1 : a + 1 + k - (a + 1) = k := by omega
        have e2 : a + 1 + k - a = k + 1 := by omega
        rw [if_pos (e.mpr h2), if_pos h2, e1, e2]
        simp
      · rw [if_neg (fun h => h2 (e.mp h)), if_neg h2]
        simp [h1]

/-- Two buffers that read the same are the same. -/
theorem codewords_ext {v w : Codewords} (h : ∀ i < 44, readCw v i = readCw w i) : v = w := by
  apply Vector.ext
  intro i hi
  simpa [readCw_of_lt _ hi] using h i hi

/-! ### The symbol matrix -/

theorem readCell_of_lt (m : Grid) {r c : Nat} (hr : r < 25) (hc : c < 25) : readCell m r c = m[r][c] := by
  simp [readCell, hr, hc]

/-- A read after one write. -/
theorem readCell_writeCell (m : Grid) (r c r' c' : Nat) (x : CellState) :
    readCell (writeCell m r c x) r' c' =
      if r = r' ∧ c = c' ∧ r < 25 ∧ c < 25 then x else readCell m r' c' := by
  unfold writeCell readCell
  by_cases hr : r < 25
  · by_cases hr' : r' < 25
    · by_cases he : r = r'
      · subst he
        by_cases hc' : c' < 25
        · by_cases hcc : c = c'
          · subst hcc; simp [hr, hc']
          · simp [hr, hc', hcc]
        · simp [hr, hc']
          intro h1 h2; omega
      · simp [hr, hr', he]
    · simp [hr, hr']
      intro h; omega
  · simp [hr]

/-- A read after a list of writes: the last write to the cell, or the cell as it was. -/
theorem readCell_placeCells (ws : List CellWrite) {r c : Nat} (hr : r < 25) (hc : c < 25) : ∀ m : Grid,
    readCell (placeCells m ws) r c =
      ws.foldl (fun x w => if w.1 = r ∧ w.2.1 = c then w.2.2 else x) (readCell m r c) := by
  induction ws with
  | nil => intro m; rfl
  | cons w ws ih =>
    intro m
    rw [placeCells, ih, readCell_writeCell, List.foldl_cons]
    congr 1
    by_cases h : w.1 = r ∧ w.2.1 = c
    · obtain ⟨h1, h2⟩ := h
      simp [h1, h2, hr, hc]
    · have : ¬(w.1 = r ∧ w.2.1 = c ∧ w.1 < 25 ∧ w.2.1 < 25) := fun h' => h ⟨h'.1, h'.2.1⟩
      rw [if_neg this, if_neg h]

/-- Two matrices that read the same in every cell are the same. -/
theorem grid_ext {m n : Grid} (h : ∀ r < 25, ∀ c < 25, readCell m r c = readCell n r c) : m = n := by
  apply Vector.ext
  intro r hr
  apply Vector.ext
  intro c hc
  simpa [readCell_of_lt _ hr hc] using h r hr c hc

@[simp] theorem readCell_allUnset (r c : Nat) : readCell Grid.allUnset r c = .unset := by
  unfold readCell Grid.allUnset
  by_cases hr : r < 25
  · by_cases hc : c < 25 <;> simp [hr, hc]
  · simp [hr]

theorem cellOf_ne_unset (b : Bool) : cellOf b ≠ .unset := by cases b <;> decide

/-! ### The host's side -/

theorem nextEvent_cons (s : State) (e : HostEvent) (rest : List HostEvent) (h : s.pending = e :: rest) :
    nextEvent s = some (e, s.setPending rest) := by
  simp [nextEvent, h]

theorem nextEvent_nil (s : State) (h : s.pending = []) : nextEvent s = none := by
  simp [nextEvent, h]

/-- The oldest event is taken and nothing else changes. -/
theorem nextEvent_some {s t : State} {e : HostEvent} (h : nextEvent s = some (e, t)) :
    s.pending = e :: t.pending ∧ t = s.setPending t.pending := by
  unfold nextEvent at h
  split at h
  · cases h
  · rename_i rest hp
    simp only [Option.some.injEq, Prod.mk.injEq] at h
    obtain ⟨rfl, rfl⟩ := h
    exact ⟨hp, rfl⟩

end Sys2Proof.Machine
end

