-- ==== Sys2Proof/Laws/PerInstr.lean ====
section
/-! SUPPORT. Per instruction: the word `encode` builds lies in the instruction's row of the opcode map
(30_encoding.md R64, R76): (cmd and mask) = match. -/

namespace Sys2Proof.Laws.MatchesRow

/-- The match value and the mask of an instruction's row (R76). -/
def row : Instr → Word × Word
  | .gfExp _ => (0x01000000, 0xFF000000)
  | .gfLog _ => (0x02000000, 0xFFFFFF00)
  | .bchFmt _ => (0x08000000, 0xFFFFFFE0)
  | .cwWrite _ _ => (0x10000000, 0xFFFF0000)
  | .cwRead _ => (0x11000000, 0xFFFFFF00)
  | .setDlen _ => (0x12000000, 0xFFFFFF00)
  | .genRead _ => (0x13000000, 0xFFFFFF00)
  | .rsEncode => (0x14000000, 0xFFFFFFFF)
  | .matrixClear => (0x20000000, 0xFFFFFFFF)
  | .placeFinders => (0x21000000, 0xFFFFFFFF)
  | .placeTiming => (0x22000000, 0xFFFFFFFF)
  | .placeAlign => (0x23000000, 0xFFFFFFFF)
  | .placeFormat => (0x24000000, 0xFFFFFFFF)
  | .modRead _ _ => (0x25000000, 0xFFFF0000)
  | .maskEval _ _ _ => (0x28000000, 0xFF000000)
  | .mapData => (0x29000000, 0xFFFFFFFF)
  | .setMask _ => (0x30000000, 0xFFFFFF00)
  | .regRead _ => (0x31000000, 0xFFFFFF00)

/-- The encoded word matches the row. -/
def Statement (i : Instr) : Prop := encode i &&& (row i).2 = (row i).1

/-- `and` acts on the two parts of a concatenation. -/
theorem and_parts {m n : Nat} (a c : BitVec m) (b d : BitVec n) : (a ++ b) &&& (c ++ d) = (a &&& c) ++ (b &&& d) := by
  ext i hi
  simp only [BitVec.getElem_and, BitVec.getElem_append]
  split <;> rfl

/-- A word's opcode is kept, and its operand masked, by a mask whose top byte is full. -/
theorem word_mask (opc : Byte) (v mask : Operand) :
    ((opc ++ v : Word) &&& (0xFF#8 ++ mask : Word)) = (opc ++ (v &&& mask) : Word) := by
  refine (and_parts opc 0xFF#8 v mask).trans ?_
  rw [show opc &&& 0xFF#8 = opc from BitVec.and_allOnes]

/-- An operand that is a field of `n` bits below reserved zeros is 0 under the mask of its reserved bits. -/
theorem operand_mask {m n : Nat} (b : BitVec n) : ((0#m ++ b) &&& (BitVec.allOnes m ++ 0#n)) = 0#(m + n) := by
  rw [and_parts]
  simp

/-- Format B8 under its mask. -/
theorem byte_mask (opc b : Byte) :
    ((opc ++ (0#16 ++ b : Operand) : Word) &&& (0xFF#8 ++ 0xFFFF00#24 : Word)) = (opc ++ 0#24 : Word) := by
  rw [word_mask]
  exact congrArg (fun v : Operand => (opc ++ v : Word)) (operand_mask (m := 16) b)

/-- Format D5 under its mask. -/
theorem five_mask (opc : Byte) (b : BitVec 5) :
    ((opc ++ (0#19 ++ b : Operand) : Word) &&& (0xFF#8 ++ 0xFFFFE0#24 : Word)) = (opc ++ 0#24 : Word) := by
  rw [word_mask]
  exact congrArg (fun v : Operand => (opc ++ v : Word)) (operand_mask (m := 19) b)

/-- Formats IV and RC under their mask. -/
theorem two_mask (opc a b : Byte) :
    ((opc ++ (0#8 ++ a ++ b : Operand) : Word) &&& (0xFF#8 ++ 0xFF0000#24 : Word)) = (opc ++ 0#24 : Word) := by
  rw [word_mask]
  refine congrArg (fun v : Operand => (opc ++ v : Word)) ?_
  refine (and_parts (0#8 ++ a) (0xFF#8 ++ 0#8) b 0#8).trans ?_
  rw [show (0#8 ++ a) &&& (0xFF#8 ++ 0#8) = 0#16 from operand_mask (m := 8) a]
  simp

/-- Formats I24 and MRC under their mask. -/
theorem opcode_mask (opc : Byte) (v : Operand) :
    ((opc ++ v : Word) &&& (0xFF#8 ++ 0#24 : Word)) = (opc ++ 0#24 : Word) := by
  rw [word_mask]
  simp

theorem gfExp (n : Int) : Statement (.gfExp n) := opcode_mask 0x01 _
theorem gfLog (v : Byte) : Statement (.gfLog v) := byte_mask 0x02 v
theorem bchFmt (d : BitVec 5) : Statement (.bchFmt d) := five_mask 0x08 d
theorem cwWrite (idx val : Byte) : Statement (.cwWrite idx val) := two_mask 0x10 idx val
theorem cwRead (idx : Byte) : Statement (.cwRead idx) := byte_mask 0x11 idx
theorem setDlen (n : Byte) : Statement (.setDlen n) := byte_mask 0x12 n
theorem genRead (j : Byte) : Statement (.genRead j) := byte_mask 0x13 j
theorem rsEncode : Statement .rsEncode := by unfold Statement; decide
theorem matrixClear : Statement .matrixClear := by unfold Statement; decide
theorem placeFinders : Statement .placeFinders := by unfold Statement; decide
theorem placeTiming : Statement .placeTiming := by unfold Statement; decide
theorem placeAlign : Statement .placeAlign := by unfold Statement; decide
theorem placeFormat : Statement .placeFormat := by unfold Statement; decide
theorem modRead (row col : Byte) : Statement (.modRead row col) := two_mask 0x25 row col
theorem maskEval (id row col : Byte) : Statement (.maskEval id row col) := opcode_mask 0x28 _
theorem mapData : Statement .mapData := by unfold Statement; decide
theorem setMask (id : Byte) : Statement (.setMask id) := byte_mask 0x30 id
theorem regRead (sel : Byte) : Statement (.regRead sel) := byte_mask 0x31 sel

end Sys2Proof.Laws.MatchesRow
end

