-- ==== Sys2Proof/Laws/Step.lean ====
section
/-! SUPPORT. What a step can do, said once. -/

namespace Sys2Proof.Machine

/-- The four ways a step can go: nothing issued, a reset, a command word that decodes, a word that does not. -/
theorem step_cases (s : State) :
    (s.pending = [] ∧ step s = .next s) ∨
    (∃ rest, s.pending = .reset :: rest ∧ step s = takeReset (s.setPending rest)) ∨
    (∃ w rest i, s.pending = .command w :: rest ∧ decode w = .ok i ∧ step s = exec i (s.setPending rest)) ∨
    (∃ w rest e, s.pending = .command w :: rest ∧ decode w = .error e ∧
      step s = illegalCommand (s.setPending rest)) := by
  unfold step
  cases hp : s.pending with
  | nil => exact .inl ⟨rfl, by simp [nextEvent_nil s hp, idle]⟩
  | cons ev rest =>
    rw [nextEvent_cons s ev rest hp]
    cases ev with
    | reset => exact .inr (.inl ⟨rest, rfl, rfl⟩)
    | command w =>
      cases hd : decode w with
      | ok i => exact .inr (.inr (.inl ⟨w, rest, i, rfl, hd, by simp [hd]⟩))
      | error e => exact .inr (.inr (.inr ⟨w, rest, e, rfl, hd, by simp [hd]⟩))

end Sys2Proof.Machine
end

