-- ==== Sys2Proof/Tests/Slice0.lean ====
section
/-! SUPPORT. Small tests: the WellFormed smoke, a word of every command written out from spec/30_encoding.md, one or two
single-step tests a command with results of spec/95_test_vectors.md and the rules' own examples, and for every obligation
with hypotheses a named witness that meets them. -/

set_option Elab.async false

namespace Sys2Proof.Tests

open Sys2Proof.Machine Sys2Proof.Spec

/-! ### WellFormed smoke -/

theorem test_wf_imm24_above : (Instr.gfExp 8388608).wellFormed = false := by decide
theorem test_wf_imm24_below : (Instr.gfExp (-8388609)).wellFormed = false := by decide
theorem test_wf_imm24_top : (Instr.gfExp 8388607).wellFormed = true := by decide
theorem test_wf_imm24_bottom : (Instr.gfExp (-8388608)).wellFormed = true := by decide
theorem test_asm_rejects_wide_byte : instrOf "SET_MASK".toList [256] = none := by decide +kernel

/-! ### Decoding: each word written from the opcode map (R76) and the format diagrams (R66 to R72), [31:24] first -/

/-- The command a word decodes to; none for ILLEGAL_COMMAND. -/
def decoded (w : Word) : Option Instr := decodeTableWord 32 w.toNat

theorem test_decode_gf_exp : decoded 0b00000001_100000000000000000000000#32 = some (.gfExp (-8388608)) := by
  decide +kernel
theorem test_decode_gf_log : decoded 0b00000010_0000000000000000_00011101#32 = some (.gfLog 29) := by decide +kernel
theorem test_decode_bch_fmt : decoded 0b00001000_0000000000000000000_01111#32 = some (.bchFmt 15) := by decide +kernel
theorem test_decode_cw_write : decoded 0b00010000_00000000_00000011_01010100#32 = some (.cwWrite 3 0x54) := by
  decide +kernel
theorem test_decode_cw_read : decoded 0b00010001_0000000000000000_00100010#32 = some (.cwRead 34) := by decide +kernel
theorem test_decode_set_dlen : decoded 0b00010010_0000000000000000_00100010#32 = some (.setDlen 34) := by
  decide +kernel
theorem test_decode_gen_read : decoded 0b00010011_0000000000000000_00000001#32 = some (.genRead 1) := by decide +kernel
theorem test_decode_rs_encode : decoded 0b00010100_000000000000000000000000#32 = some .rsEncode := by decide +kernel
theorem test_decode_matrix_clear : decoded 0b00100000_000000000000000000000000#32 = some .matrixClear := by
  decide +kernel
theorem test_decode_place_finders : decoded 0b00100001_000000000000000000000000#32 = some .placeFinders := by
  decide +kernel
theorem test_decode_place_timing : decoded 0b00100010_000000000000000000000000#32 = some .placeTiming := by
  decide +kernel
theorem test_decode_place_align : decoded 0b00100011_000000000000000000000000#32 = some .placeAlign := by
  decide +kernel
theorem test_decode_place_format : decoded 0b00100100_000000000000000000000000#32 = some .placeFormat := by
  decide +kernel
theorem test_decode_mod_read : decoded 0b00100101_00000000_00010001_00001000#32 = some (.modRead 17 8) := by
  decide +kernel
theorem test_decode_mask_eval : decoded 0b00101000_00000111_00000010_00000011#32 = some (.maskEval 7 2 3) := by
  decide +kernel
theorem test_decode_map_data : decoded 0b00101001_000000000000000000000000#32 = some .mapData := by decide +kernel
theorem test_decode_set_mask : decoded 0b00110000_0000000000000000_00000011#32 = some (.setMask 3) := by decide +kernel
theorem test_decode_reg_read : decoded 0b00110001_0000000000000000_00000101#32 = some (.regRead 5) := by decide +kernel

/-- R77: the whole-zero and the whole-one word are unassigned; R65: a reserved bit rejects, by name. -/
theorem test_reject_unassigned : decode 0x00000000 = .error (.unassignedOpcode 0x00) ∧
    decode 0xFFFFFFFF = .error (.unassignedOpcode 0xFF) := by decide +kernel
theorem test_reject_reserved_bits : decode 0x21000001 = .error (.reservedBitSet 0x21) ∧
    decode 0x02000100 = .error (.reservedBitSet 0x02) ∧ decode 0x08000020 = .error (.reservedBitSet 0x08) ∧
    decode 0x10010000 = .error (.reservedBitSet 0x10) ∧ decode 0x25010000 = .error (.reservedBitSet 0x25) := by
  decide +kernel

/-! ### The notation (R80, R82) -/

theorem test_parse_examples :
    (parseLine "GF_EXP -1 ; comment".toList).bind AsmLine.words = some [0x01FFFFFF] ∧
    (parseLine "MOD_READ 17, 8".toList).bind AsmLine.words = some [0x25001108] ∧
    (parseLine "REG_READ 0x05".toList).bind AsmLine.words = some [0x31000005] := by decide +kernel
theorem test_load_cw_expands : (AsmLine.loadCw [0x40]).words = some [0x12000001, 0x10000040] := by decide +kernel
theorem test_show_words : showWord 0x10000354 = "CW_WRITE 3, 84".toList ∧
    showWord 0xFFFFFFFF = ".word 0xFFFFFFFF".toList := by decide +kernel

/-! ### Small states -/

/-- A matrix from a formula, by lists. -/
def gridOf (f : Nat → Nat → CellState) : Grid :=
  ⟨⟨(List.range 25).map fun r => ⟨⟨(List.range 25).map (f r)⟩, by simp⟩⟩, by simp⟩

/-- A buffer that holds the given bytes first and zeros after them. -/
def cwOf (bytes : List Byte) : Codewords := ⟨⟨(List.range 44).map fun i => bytes.getD i 0⟩, by simp⟩

/-- The reset state with a buffer of zeros. -/
def zeroState : State := { State.reset with cw := cwOf [] }

/-- The structural cells (R116). -/
def structural (r c : Nat) : Bool := inFinder r c || inTiming r c || inAlign r c || inFormat r c

/-- The state before MAP_DATA: the structural cells set (all Light here: their colour plays no part), four flags set. -/
def readyState : State :=
  { zeroState with
    m := gridOf fun r c => if structural r c then .light else .unset
    fmt := bchFormat 15
    flags := ⟨true, true, true, true, false⟩ }

/-- A state after MAP_DATA, every cell set. -/
def mappedState : State :=
  { readyState with m := gridOf fun _ _ => .dark, flags := ⟨true, true, true, true, true⟩ }

/-- The "HELLO" stream of 95_test_vectors.md section 7.1, data then EC. -/
def helloStream : List Byte :=
  [0x40, 0x54, 0x84, 0x54, 0xC4, 0xC4, 0xF0] ++ (List.range 27).map (fun i => if i % 2 = 0 then 0xEC else 0x11) ++
  [0xA7, 0x0A, 0x16, 0x13, 0x7D, 0x0C, 0xB2, 0x81, 0xC1, 0x0E]

/-- `readyState` with the "HELLO" stream loaded. -/
def helloReady : State := { readyState with cw := cwOf helloStream, dlen := 34, eclen := 10 }

/-- The next state of an outcome. -/
def after (o : Host.Outcome State Fault Refusal) : Option State :=
  match o with
  | .next t => some t
  | .fault _ => none
  | .refused _ => none

/-- The response word of an outcome. -/
def answer (o : Host.Outcome State Fault Refusal) : Option Word := (after o).bind State.response

/-- A cell after an outcome. -/
def cellAfter (o : Host.Outcome State Fault Refusal) (r c : Nat) : Option CellState :=
  (after o).map fun t => readCell t.m r c

/-! ### One step a command (95_test_vectors.md and the rules' examples) -/

theorem test_gf_exp_wraps_negative : answer (exec (.gfExp (-1)) zeroState) = some 0x0000008E := by decide +kernel
theorem test_gf_exp_most_negative : answer (exec (.gfExp (-8388608)) zeroState) = some 0x000000CC := by decide +kernel
theorem test_gf_log_last : answer (exec (.gfLog 142) zeroState) = some 0x000000FE := by decide +kernel
theorem test_gf_log_zero : answer (exec (.gfLog 0) zeroState) = some 0x05000000 := by decide +kernel
theorem test_bch_fmt_top : answer (exec (.bchFmt 31) zeroState) = some 0x00002BED := by decide +kernel
theorem test_bch_fmt_zero : answer (exec (.bchFmt 0) zeroState) = some 0x00005412 := by decide +kernel
theorem test_cw_write_last_index :
    (after (exec (.cwWrite 43 0xFF) zeroState)).map (fun t => readCw t.cw 43) = some 0xFF := by decide +kernel
theorem test_cw_write_past_the_end : answer (exec (.cwWrite 44 1) zeroState) = some 0x02000000 := by decide +kernel
theorem test_cw_read_ec_byte : answer (exec (.cwRead 34) helloReady) = some 0x000000A7 := by decide +kernel
theorem test_cw_read_past_the_end : answer (exec (.cwRead 44) helloReady) = some 0x02000000 := by decide +kernel
theorem test_set_dlen_clears_eclen :
    (after (exec (.setDlen 34) helloReady)).map (fun t => (t.dlen, t.eclen)) = some (34, 0) := by decide +kernel
theorem test_set_dlen_too_long : answer (exec (.setDlen 35) helloReady) = some 0x02000000 := by decide +kernel
theorem test_gen_read_last : answer (exec (.genRead 10) zeroState) = some 0x0000002D := by decide +kernel
theorem test_gen_read_past_the_end : answer (exec (.genRead 11) zeroState) = some 0x02000000 := by decide +kernel
/-- R104's example. -/
theorem test_rs_encode_one_byte :
    (after (exec .rsEncode { zeroState with cw := cwOf [2], dlen := 1 })).map
      (fun t => (t.response, (List.range 12).map (readCw t.cw))) =
    some (some 0x0000000A, [0x02, 0xAD, 0x99, 0x23, 0xDE, 0x93, 0xBC, 0xBE, 0xE2, 0x27, 0x9F, 0]) := by decide +kernel
theorem test_rs_encode_hello :
    (after (exec .rsEncode { helloReady with cw := cwOf (helloStream.take 34), eclen := 0 })).map
      (fun t => (t.eclen, t.cw)) = some (10, cwOf helloStream) := by decide +kernel
theorem test_matrix_clear_unsets : cellAfter (exec .matrixClear mappedState) 24 24 = some .unset := by decide +kernel
theorem test_matrix_clear_lifts_symerr :
    (after (exec .matrixClear { mappedState with symerr := 3 })).map (fun t => (t.symerr, t.fmt, t.response)) =
      some (0, 0, some 0) := by decide +kernel
theorem test_place_finders_colours :
    cellAfter (exec .placeFinders zeroState) 0 24 = some .dark ∧
    cellAfter (exec .placeFinders zeroState) 17 0 = some .light ∧
    cellAfter (exec .placeFinders zeroState) 17 17 = some .unset := by decide +kernel
theorem test_place_finders_twice :
    answer (exec .placeFinders readyState) = some 0x03000000 := by decide +kernel
theorem test_place_timing_colours :
    cellAfter (exec .placeTiming zeroState) 6 8 = some .dark ∧
    cellAfter (exec .placeTiming zeroState) 9 6 = some .light := by decide +kernel
theorem test_place_timing_twice :
    (after (exec .placeTiming readyState)).map State.symerr = some 3 := by decide +kernel
theorem test_place_align_colours :
    cellAfter (exec .placeAlign zeroState) 18 18 = some .dark ∧
    cellAfter (exec .placeAlign zeroState) 17 17 = some .light ∧
    cellAfter (exec .placeAlign zeroState) 16 20 = some .dark := by decide +kernel
theorem test_place_align_symbol_invalid :
    answer (exec .placeAlign { zeroState with symerr := 4 }) = some 0x06000000 := by decide +kernel
theorem test_place_format_reset_mask :
    answer (exec .placeFormat zeroState) = some 0x00006976 ∧
    cellAfter (exec .placeFormat zeroState) 8 0 = some .dark ∧
    cellAfter (exec .placeFormat zeroState) 8 2 = some .light ∧
    cellAfter (exec .placeFormat zeroState) 17 8 = some .dark := by decide +kernel
theorem test_place_format_invalid_mask :
    (after (exec .placeFormat { zeroState with mask := 8 })).map (fun t => (t.response, t.symerr, t.fmt)) =
      some (some 0x04000000, 4, 0) := by decide +kernel
theorem test_mod_read_corner : answer (exec (.modRead 24 24) mappedState) = some 0x00000002 := by decide +kernel
theorem test_mod_read_order :
    answer (exec (.modRead 25 0) { mappedState with symerr := 3 }) = some 0x02000000 ∧
    answer (exec (.modRead 24 24) { mappedState with symerr := 3 }) = some 0x06000000 := by decide +kernel
theorem test_mask_eval_parity : answer (exec (.maskEval 0 1 1) zeroState) = some 0x00000001 ∧
    answer (exec (.maskEval 0 0 1) zeroState) = some 0x00000000 := by decide +kernel
theorem test_mask_eval_unknown : answer (exec (.maskEval 8 0 0) zeroState) = some 0x04000000 := by decide +kernel
/-- Row 9 of the "HELLO" symbol, columns 0 to 5 and 7 to 24 (95_test_vectors.md section 7.3: all data cells but column 6). -/
theorem test_map_data_hello_row :
    answer (exec .mapData helloReady) = some 0x00000007 ∧
    ((after (exec .mapData helloReady)).map fun t =>
      ((List.range 6) ++ (List.range' 7 18)).map fun c => if readCell t.m 9 c = .dark then '#' else '.') =
    some "...#..##.##..##...#..##.".toList := by decide +kernel
theorem test_map_data_too_early : answer (exec .mapData zeroState) = some 0x03000000 := by decide +kernel
theorem test_set_mask_stores_any_byte :
    (after (exec (.setMask 255) zeroState)).map State.mask = some 255 := by decide +kernel
theorem test_set_mask_refused : answer (exec (.setMask 3) readyState) = some 0x03000000 := by decide +kernel
theorem test_reg_read_flags : answer (exec (.regRead 0) mappedState) = some 0x0000003F ∧
    answer (exec (.regRead 0) { mappedState with symerr := 3 }) = some 0x0000001F := by decide +kernel
theorem test_reg_read_past_the_end : answer (exec (.regRead 0x0C) zeroState) = some 0x02000000 := by decide +kernel

/-! ### The step and the host's entry points -/

/-- A word placed by withFetchWord is the first command after reset. -/
theorem test_fetch_word_runs_first : answer (step (State.reset.withFetchWord 32 0x31000001)) = some 0x00000007 := by
  decide +kernel
theorem test_step_takes_reset :
    (after (step { mappedState with pending := [.reset, .command 0] })).map
      (fun t => (t.mask, t.flags, t.pending, t.response)) = some (7, Flags.clear, [.command 0], none) := by
  decide +kernel
theorem test_step_illegal_word : answer (step { zeroState with pending := [.command 0xFFFFFFFF] }) =
    some 0x01000000 := by decide +kernel

/-! ### The host's payload (R141) -/

theorem test_payload_clamp :
    (match encodeData true [0x2F, 0xF0] with | .ok d => d.take 6 | .error _ => []) =
      [0x40, 0x22, 0x00, 0x00, 0xEC, 0x11] := by decide +kernel
theorem test_payload_without_clamp :
    (match encodeData false [0x2F, 0xF0] with | .ok d => d.take 4 | .error _ => []) = [0x40, 0x22, 0xFF, 0x00] := by
  decide +kernel

/-! ### Witnesses: concrete instances that meet each obligation's hypotheses, each clause at a boundary -/

/-- A read of a matrix made by `gridOf`. -/
theorem readCell_gridOf (f : Nat → Nat → CellState) {r c : Nat} (hr : r < 25) (hc : c < 25) :
    readCell (gridOf f) r c = f r c := by
  simp [readCell_of_lt _ hr hc, gridOf]

theorem light_iff (b : Bool) : (if b then CellState.light else .unset) ≠ .unset ↔ b = true := by
  cases b <;> decide

/-- The invariant holds in the state before MAP_DATA, whatever the buffer, the lengths in range, the host's events. -/
theorem ready_inv (cw : Codewords) (events : List HostEvent) :
    ({ readyState with cw := cw, dlen := 34, eclen := 10, pending := events } : State).Inv where
  dlen_le := by simp
  eclen_values := by simp
  symerr_values := .inl rfl
  cells := by
    intro r hr c hc
    refine (iff_of_eq (congrArg (· ≠ _) (readCell_gridOf _ hr hc))).trans ?_
    exact light_iff (structural r c)
  map_placed := by simp [readyState]
  fmt_placed := by simp only [readyState, true_iff]; decide +kernel
  fmt_value := fun _ => show bchFormat 15 = bchFormat (formatDescriptor 7) by decide +kernel
  mask_le := fun _ => show (7 : Byte).toNat ≤ 7 by decide

/-- The invariant holds in a state after MAP_DATA. -/
theorem mapped_inv : mappedState.Inv where
  dlen_le := by decide +kernel
  eclen_values := .inl rfl
  symerr_values := .inl rfl
  cells := by
    intro r hr c hc
    refine (iff_of_eq (congrArg (· ≠ _) (readCell_gridOf _ hr hc))).trans ?_
    simp [mappedState, writtenCell]
  map_placed := by decide +kernel
  fmt_placed := by decide +kernel
  fmt_value := fun _ => by decide +kernel
  mask_le := fun _ => by decide +kernel

/-- EncodeThenDecode, DisassembledLineAssemblesBack: commands that fit their format, at the ends of imm24. -/
theorem witness_well_formed : (Instr.gfExp 8388607).wellFormed = true ∧ (Instr.gfExp (-8388608)).wellFormed = true ∧
    (Instr.maskEval 255 255 255).wellFormed = true := by decide
/-- DecodedWordReencodes, StepRunsTheDecodedCommand: words that decode. -/
theorem witness_decodes : decode 0x01FFFFFF = .ok (.gfExp (-1)) ∧ decode 0x31000005 = .ok (.regRead 5) := by
  decide +kernel
/-- DecodingFollowsTheOpcodeMap: a word that matches a row. -/
theorem witness_matches : ∃ row ∈ opcodeMap, Matches 0x020000FF row := by unfold Matches; decide +kernel
/-- DecodingFollowsTheOpcodeMap, UnmatchedWordIsIllegalAndChangesNothing: words that match no row, by the opcode and
by a reserved bit. -/
theorem witness_unmatched : (∀ row ∈ opcodeMap, ¬Matches 0x00000000 row) ∧
    (∀ row ∈ opcodeMap, ¬Matches 0x02000100 row) := by unfold Matches; decide +kernel
/-- EncodedN, EncodedB8, EncodedTwo and the D5 clause: operands on either side of each bound. -/
theorem witness_operand_bounds : (255#24).toNat < 256 ∧ ¬(256#24).toNat < 256 ∧ (65535#24).toNat < 65536 ∧
    ¬(65536#24).toNat < 65536 ∧ (31#24).toNat < 32 ∧ ¬(32#24).toNat < 32 ∧ (1#24) ≠ 0 := by decide
/-- ExpTableFollowsTheConstruction, LogTableInvertsExp, ExpAndLogFieldLaws, GfLogCommand: the ends of the ranges. -/
theorem witness_field_ranges : (8 ≤ 8 ∧ 8 ≤ 254) ∧ (8 ≤ 254 ∧ 254 ≤ 254) ∧ (1 : Byte) ≠ 0 ∧ (255 : Byte) ≠ 0 := by
  decide
/-- ZeroLeadActsAsOne: the shortest buffers with a zero lead and with another. -/
theorem witness_zero_lead : 0 + 10 < (List.replicate 11 (0 : Byte)).length ∧
    (List.replicate 11 (0 : Byte)).getD 0 0 = 0 ∧ 0 + 10 < (List.replicate 11 (255 : Byte)).length ∧
    (List.replicate 11 (255 : Byte)).getD 0 0 ≠ 0 := by decide +kernel
/-- EcLengthIsTenOrZero, EcBytesCompleteACodeword: a non-empty sequence no step of which meets a zero lead (the
"HELLO" data, 95_test_vectors.md section 7.1). -/
theorem witness_no_zero_lead : helloStream.take 34 ≠ [] ∧ NoZeroLead (helloStream.take 34) := by
  unfold NoZeroLead
  decide +kernel
/-- PlacementOrderDoesNotMatter: two placements in a state where the other two patterns are placed, PLACE_FORMAT one of
the two with the largest mask that has a formula. -/
theorem witness_placement_order : Instr.placeFinders ∈ placements ∧ Instr.placeFormat ∈ placements ∧
    Instr.placeFinders ≠ Instr.placeFormat ∧ zeroState.symerr = 0 ∧
    OwnFlagClear .placeFinders ⟨false, true, true, false, false⟩ ∧
    OwnFlagClear .placeFormat ⟨false, true, true, false, false⟩ ∧ zeroState.mask.toNat = 7 := by
  unfold OwnFlagClear
  decide +kernel
/-- PlacementOrderDoesNotMatter: two placements without PLACE_FORMAT, where the mask may have no formula. -/
theorem witness_placement_order_any_mask : Instr.placeTiming ∈ placements ∧ Instr.placeAlign ∈ placements ∧
    OwnFlagClear .placeTiming ⟨true, false, false, false, false⟩ ∧
    OwnFlagClear .placeAlign ⟨true, false, false, false, false⟩ ∧
    ¬(Instr.placeTiming = .placeFormat ∨ Instr.placeAlign = .placeFormat) := by
  unfold OwnFlagClear
  decide
/-- TraversalYieldsTheDataCells: a matrix with exactly the structural cells set. -/
theorem witness_structural_grid : ∀ r < 25, ∀ c < 25, (readCell readyState.m r c ≠ .unset ↔
    (inFinder r c || inTiming r c || inAlign r c || inFormat r c) = true) := by
  intro r hr c hc
  refine (iff_of_eq (congrArg (· ≠ _) (readCell_gridOf _ hr hc))).trans ?_
  exact light_iff (structural r c)
/-- MapDataLeavesNoCellUnset. -/
theorem witness_map_data : helloReady.Inv ∧ helloReady.symerr = 0 ∧
    helloReady.flags = ⟨true, true, true, true, false⟩ :=
  ⟨ready_inv _ [], rfl, rfl⟩
/-- CompleteSymbolIsLightOrDark. -/
theorem witness_complete : mappedState.Inv ∧ symbolComplete mappedState = true := ⟨mapped_inv, by decide +kernel⟩
/-- ErrorsArePrecise: an error of a command that is no construction command, and of a construction command that writes
SYMERR and that does not. -/
theorem witness_error : answer (exec (.setDlen 35) zeroState) = some 0x02000000 ∧
    isConstruction (.setDlen 35) = false ∧ isConstruction .mapData = true ∧
    (after (exec .mapData zeroState)).map State.symerr = some 3 ∧
    (after (exec .mapData { zeroState with symerr := 4 })).map (fun t => (t.response, t.symerr)) =
      some (some 0x06000000, 4) := by decide +kernel
/-- SymbolInvalidHidesTheMatrix, both clauses. -/
theorem witness_symbol_invalid : ({ zeroState with symerr := 3 } : State).symerr ≠ 0 ∧
    isConstruction .mapData = true ∧ (24 : Byte).toNat ≤ 24 := by decide +kernel
/-- `helloReady` with MAP_DATA to take next. -/
def mapNext : State := { helloReady with pending := [.command 0x29000000] }
/-- StepKeepsTheInvariant: a sound state with a command to take, and its step. -/
theorem witness_step_keeps : mapNext.Inv ∧ (after (step mapNext)).isSome = true :=
  ⟨ready_inv _ _, by decide +kernel⟩
/-- MaskIsFixedDuringConstruction: a state under construction and a command that completes. -/
theorem witness_mask_fixed : readyState.flags ≠ ⟨false, false, false, false, false⟩ ∧
    (after (exec (.setMask 3) readyState)).isSome = true := by decide +kernel
/-- MappedMatrixIsSealed. -/
theorem witness_sealed : mappedState.Inv ∧ mappedState.flags.map = true ∧ Instr.placeAlign ≠ .matrixClear ∧
    (after (exec .placeAlign mappedState)).isSome = true :=
  ⟨mapped_inv, rfl, by decide, by decide +kernel⟩
/-- SetCellsAreNeverRevisited: a set cell at the corner, under a command that writes cells. -/
theorem witness_set_cell : helloReady.Inv ∧ Instr.mapData ≠ .matrixClear ∧
    (after (exec .mapData helloReady)).isSome = true ∧ readCell helloReady.m 24 0 ≠ .unset :=
  ⟨ready_inv _ [], by decide, by decide +kernel, by decide +kernel⟩
/-- ReadersChangeOnlyTheResponse. -/
theorem witness_reader : isReader (.modRead 24 24) = true ∧
    (after (exec (.modRead 24 24) mappedState)).isSome = true := by decide +kernel
/-- CodewordCommandsFrame, its three clauses. -/
theorem witness_codeword_frame : (after (exec (.cwWrite 43 1) zeroState)).isSome = true ∧ 42 ≠ (43 : Byte).toNat ∧
    (after (exec (.setDlen 34) zeroState)).isSome = true ∧
    (after (exec .rsEncode { zeroState with dlen := 1 })).isSome = true ∧
    0 < ({ zeroState with dlen := 1 } : State).dlen.toNat ∧
    ({ zeroState with dlen := 1 } : State).dlen.toNat + 10 ≤ 11 ∧ zeroState.dlen = 0 ∧
    (after (exec .rsEncode zeroState)).isSome = true := by decide +kernel
/-- SymbolCommandsFrame, its six clauses: each command completes, and a cell outside its pattern. -/
theorem witness_symbol_frame : isConstruction .placeTiming = true ∧
    (after (exec .matrixClear zeroState)).isSome = true ∧
    (after (exec .placeFinders zeroState)).isSome = true ∧ inFinder 8 7 = false ∧
    (after (exec .placeTiming zeroState)).isSome = true ∧ inTiming 6 17 = false ∧
    (after (exec .placeAlign zeroState)).isSome = true ∧ inAlign 21 20 = false ∧
    (after (exec .placeFormat zeroState)).isSome = true ∧ inFormat 6 8 = false ∧
    (after (exec .mapData helloReady)).isSome = true ∧ readCell helloReady.m 8 24 ≠ .unset := by decide +kernel
/-- SetMaskFrame. -/
theorem witness_set_mask : (after (exec (.setMask 255) zeroState)).isSome = true := by decide +kernel
/-- BufferContentsStayHidden. -/
theorem witness_hidden : readsCodewords (.cwWrite 0 1) = false := by decide
/-- StreamReadersSeeOnlyTheStream: buffers that differ only outside the data segment, and only outside the stream. -/
theorem witness_stream : (∀ i < 1, readCw (cwOf [2, 7]) i = readCw (cwOf [2]) i) ∧
    ({ zeroState with cw := cwOf [2], dlen := 1 } : State).dlen.toNat = 1 ∧
    (∀ i < 34 + 10, readCw helloReady.cw i = readCw (cwOf helloStream) i) := by decide +kernel
/-- PayloadFillsTheDataSegmentOrFails: the longest string that fits and the shortest that does not. -/
theorem witness_payload : (List.replicate 32 (0x41 : Byte)).length ≤ 32 ∧
    (List.replicate 33 (0x41 : Byte)).length > 32 := by decide

end Sys2Proof.Tests
end

section
/-! PROOFS. A command word that decodes is the word of the command it decodes to (R73), so it lies in that command's row
of the opcode map; a word of no row is therefore rejected, and a rejected word is answered with ILLEGAL_COMMAND. -/

namespace Sys2Proof.Proofs

open Sys2Proof.Machine Sys2Proof.Spec Sys2Proof.Laws

/-! ### A word from its fields -/

/-- A word is its opcode over its operand area (R63). -/
theorem append_eq_word {w : Word} {opc : Byte} {v : Operand} (hopc : opcField w = opc) (hv : v = operandField w) :
    opc ++ v = w := by
  subst hopc hv
  exact (BitVec.extractLsb'_append_extractLsb'_eq_extractLsb' rfl).trans BitVec.extractLsb'_eq_self

/-- The operand area of format B8 is its reserved bits over its byte (R67). -/
theorem reserved_append_byte0Field (w : Word) : w.extractLsb' 8 16 ++ byte0Field w = operandField w :=
  BitVec.extractLsb'_append_extractLsb'_eq_extractLsb' rfl

/-- The operand area of format D5 is its reserved bits over its five bits (R68). -/
theorem reserved_append_five (w : Word) : w.extractLsb' 5 19 ++ w.extractLsb' 0 5 = operandField w :=
  BitVec.extractLsb'_append_extractLsb'_eq_extractLsb' rfl

/-- The operand area is its three bytes (R70 to R72). -/
theorem bytes_eq_operandField (w : Word) : byte2Field w ++ byte1Field w ++ byte0Field w = operandField w := by
  have upper : byte2Field w ++ byte1Field w = w.extractLsb' 8 16 :=
    BitVec.extractLsb'_append_extractLsb'_eq_extractLsb' rfl
  rw [upper, reserved_append_byte0Field]

/-! ### Each format reads the operands of the word it accepts

A format under the opcode `opc` builds the command `mk b` from the field `b`; `hmk` says which word that command has. -/

theorem encode_of_formatN_ok {w : Word} {opc : Byte} {i j : Instr} (hopc : opcField w = opc)
    (h : formatN w j = .ok i) (hmk : encode j = opc ++ (0 : Operand)) : encode i = w := by
  unfold formatN at h
  split at h
  · next hz =>
    cases h
    rw [hmk, append_eq_word hopc hz.symm]
  · cases h

theorem encode_of_formatB8_ok {w : Word} {opc : Byte} {mk : Byte → Instr} {i : Instr} (hopc : opcField w = opc)
    (h : formatB8 w mk = .ok i) (hmk : ∀ b, encode (mk b) = opc ++ (0#16 ++ b : Operand)) : encode i = w := by
  unfold formatB8 at h
  split at h
  · next hz =>
    cases h
    rw [hmk]
    exact append_eq_word hopc (by rw [← reserved_append_byte0Field, hz]; rfl)
  · cases h

theorem encode_of_formatD5_ok {w : Word} {opc : Byte} {mk : BitVec 5 → Instr} {i : Instr} (hopc : opcField w = opc)
    (h : formatD5 w mk = .ok i) (hmk : ∀ d, encode (mk d) = opc ++ (0#19 ++ d : Operand)) : encode i = w := by
  unfold formatD5 at h
  split at h
  · next hz =>
    cases h
    rw [hmk]
    exact append_eq_word hopc (by rw [← reserved_append_five, hz]; rfl)
  · cases h

theorem encode_of_formatTwo_ok {w : Word} {opc : Byte} {mk : Byte → Byte → Instr} {i : Instr}
    (hopc : opcField w = opc) (h : formatTwo w mk = .ok i)
    (hmk : ∀ a b, encode (mk a b) = opc ++ (0#8 ++ a ++ b : Operand)) : encode i = w := by
  unfold formatTwo at h
  split at h
  · next hz =>
    cases h
    rw [hmk]
    exact append_eq_word hopc (by rw [← bytes_eq_operandField, hz]; rfl)
  · cases h

theorem encode_of_formatI24_ok {w : Word} {opc : Byte} {mk : Int → Instr} {i : Instr} (hopc : opcField w = opc)
    (h : formatI24 w mk = .ok i) (hmk : ∀ n, encode (mk n) = opc ++ BitVec.ofInt 24 n) : encode i = w := by
  cases h
  rw [hmk, append_eq_word hopc (v := BitVec.ofInt 24 (sext24 _)) BitVec.ofInt_toInt]

theorem encode_of_formatMRC_ok {w : Word} {opc : Byte} {mk : Byte → Byte → Byte → Instr} {i : Instr}
    (hopc : opcField w = opc) (h : formatMRC w mk = .ok i)
    (hmk : ∀ a b c, encode (mk a b c) = opc ++ (a ++ b ++ c : Operand)) : encode i = w := by
  cases h
  rw [hmk, append_eq_word hopc (bytes_eq_operandField w)]

/-- A word that decodes is the word of the command it decodes to (R73). -/
theorem encode_of_decode_ok {w : Word} {i : Instr} (h : decode w = .ok i) : encode i = w := by
  unfold decode at h
  split at h <;> rename_i hopc
  · exact encode_of_formatI24_ok hopc h (fun _ => rfl)
  · exact encode_of_formatB8_ok hopc h (fun _ => rfl)
  · exact encode_of_formatD5_ok hopc h (fun _ => rfl)
  · exact encode_of_formatTwo_ok hopc h (fun _ _ => rfl)
  · exact encode_of_formatB8_ok hopc h (fun _ => rfl)
  · exact encode_of_formatB8_ok hopc h (fun _ => rfl)
  · exact encode_of_formatB8_ok hopc h (fun _ => rfl)
  · exact encode_of_formatN_ok hopc h rfl
  · exact encode_of_formatN_ok hopc h rfl
  · exact encode_of_formatN_ok hopc h rfl
  · exact encode_of_formatN_ok hopc h rfl
  · exact encode_of_formatN_ok hopc h rfl
  · exact encode_of_formatN_ok hopc h rfl
  · exact encode_of_formatTwo_ok hopc h (fun _ _ => rfl)
  · exact encode_of_formatMRC_ok hopc h (fun _ _ _ => rfl)
  · exact encode_of_formatN_ok hopc h rfl
  · exact encode_of_formatB8_ok hopc h (fun _ => rfl)
  · exact encode_of_formatB8_ok hopc h (fun _ => rfl)
  · cases h

/-! ### A word that decodes matches its command's row -/

/-- The row of the opcode map a command stands in (R76). -/
def rowOf (i : Instr) : OpcodeRow := ⟨i.opcode, (MatchesRow.row i).1, (MatchesRow.row i).2⟩

theorem rowOf_mem_opcodeMap (i : Instr) : rowOf i ∈ opcodeMap := by
  cases i <;> simp [rowOf, MatchesRow.row, Instr.opcode, opcodeMap]

/-- The word of a command matches the command's row (R64). -/
theorem encode_matches_rowOf : ∀ i : Instr, Matches (encode i) (rowOf i)
  | .gfExp n => MatchesRow.gfExp n
  | .gfLog v => MatchesRow.gfLog v
  | .bchFmt d => MatchesRow.bchFmt d
  | .cwWrite idx val => MatchesRow.cwWrite idx val
  | .cwRead idx => MatchesRow.cwRead idx
  | .setDlen n => MatchesRow.setDlen n
  | .genRead j => MatchesRow.genRead j
  | .rsEncode => MatchesRow.rsEncode
  | .matrixClear => MatchesRow.matrixClear
  | .placeFinders => MatchesRow.placeFinders
  | .placeTiming => MatchesRow.placeTiming
  | .placeAlign => MatchesRow.placeAlign
  | .placeFormat => MatchesRow.placeFormat
  | .modRead row col => MatchesRow.modRead row col
  | .maskEval id row col => MatchesRow.maskEval id row col
  | .mapData => MatchesRow.mapData
  | .setMask id => MatchesRow.setMask id
  | .regRead sel => MatchesRow.regRead sel

theorem matches_rowOf_of_decode_ok {w : Word} {i : Instr} (h : decode w = .ok i) : Matches w (rowOf i) :=
  encode_of_decode_ok h ▸ encode_matches_rowOf i

/-! ### A word that does not decode -/

/-- A word that does not decode is answered with ILLEGAL_COMMAND, and only the response changes (R65, R77). -/
theorem rejects_of_decode_error {w : Word} {e : DecodeReject} (h : decode w = .error e) : Rejects w := by
  intro s rest
  have taken : step { s with pending := .command w :: rest } = illegalCommand { s with pending := rest } := by
    rw [step, nextEvent_cons _ _ rest rfl]
    simp only [h]
    rfl
  exact taken.trans ((raise_next_iff .illegalCommand _ _).mpr rfl)

/-- Settles O4: a word that decoded would match its command's row, so an unmatched word does not decode, and a word
that does not decode is rejected. -/
theorem unmatchedWordIsIllegalAndChangesNothing : Obligations.UnmatchedWordIsIllegalAndChangesNothing := by
  intro w unmatched
  cases hd : decode w with
  | ok i => exact absurd (matches_rowOf_of_decode_ok hd) (unmatched _ (rowOf_mem_opcodeMap i))
  | error e => exact rejects_of_decode_error hd

end Sys2Proof.Proofs
end

section
/-! PROOFS. The field tables: EXP is the sequence of the powers of alpha that the construction of R84 computes, and LOG is
its inverse on the field elements other than 0 (R86). -/

namespace Sys2Proof.Proofs

open Sys2Proof.Machine

/-! ### EXP lists the powers of alpha -/

/-- One step of the construction (R84): alpha times a field element, reduced by 285. -/
def timesAlpha (x : Nat) : Nat := if x <<< 1 ≥ 256 then (x <<< 1) ^^^ 285 else x <<< 1

theorem timesAlpha_lt : ∀ x < 256, timesAlpha x < 256 := by decide +kernel

theorem iterate_timesAlpha_lt (i : Nat) : timesAlpha^[i] 1 < 256 := by
  induction i with
  | zero => decide
  | succ i ih =>
    rw [Function.iterate_succ_apply']
    exact timesAlpha_lt _ ih

/-- The table is the result of the construction, run once from 1 (R84, R85). -/
theorem expTable_eq_iterate : expTable = List.iterate timesAlpha 1 256 := by decide +kernel

theorem expEntry_toNat {i : Nat} (hi : i < 256) : (expEntry i).toNat = timesAlpha^[i] 1 := by
  rw [expEntry, expTable_eq_iterate, List.getD_eq_getElem _ _ (by rw [List.length_iterate]; exact hi),
    List.getElem_iterate, BitVec.toNat_ofNat, Nat.mod_eq_of_lt (iterate_timesAlpha_lt i)]

theorem expEntry_succ {i : Nat} (hi : i + 1 < 256) :
    (expEntry (i + 1)).toNat = timesAlpha (expEntry i).toNat := by
  rw [expEntry_toNat hi, expEntry_toNat (Nat.lt_of_succ_lt hi), Function.iterate_succ_apply']

/-- Settles O12: an entry above the seed is one step of the construction after the entry before it. -/
theorem expTableFollowsTheConstruction : Obligations.ExpTableFollowsTheConstruction := by
  refine ⟨by decide, fun i h8 h254 => ?_, by decide, by decide⟩
  obtain ⟨k, rfl⟩ : ∃ k, i = k + 1 := ⟨i - 1, by omega⟩
  exact expEntry_succ (by omega)

/-! ### LOG inverts EXP -/

theorem logEntry_expEntry : ∀ i ≤ 254, (logEntry (expEntry i)).toNat = i := by decide +kernel

theorem logEntry_le : ∀ v : Byte, v ≠ 0 → (logEntry v).toNat ≤ 254 := by decide +kernel

theorem expEntry_logEntry : ∀ v : Byte, v ≠ 0 → expEntry (logEntry v).toNat = v := by decide +kernel

/-- Settles O13: LOG[v] is an index of v, and any index j of v is LOG[EXP[j]] = LOG[v]. -/
theorem logTableInvertsExp : Obligations.LogTableInvertsExp := by
  refine ⟨logEntry_expEntry, fun v hv => ?_⟩
  refine ⟨(logEntry v).toNat, logEntry_le v hv, expEntry_logEntry v hv, fun j hj hvj => ?_⟩
  rw [← hvj, logEntry_expEntry j hj]

end Sys2Proof.Proofs
end

section
/-! PROOFS. A command word under an opcode, decoded by the format of that opcode (R64, R67, R69), and what a response
answers (R74). -/

namespace Sys2Proof.Proofs

open Sys2Proof.Machine Sys2Proof.Spec

/-! ### The fields of a word under an opcode -/

@[simp] theorem opcField_append (opc : Byte) (v : Operand) : opcField (opc ++ v) = opc :=
  extract_append_upper opc v

@[simp] theorem operandField_append (opc : Byte) (v : Operand) : operandField (opc ++ v) = v :=
  extract_append_lower opc v

/-- The byte of a B8 operand, as the number the operand holds (R67). -/
theorem byte0Field_append (opc : Byte) (v : Operand) : byte0Field (opc ++ v) = BitVec.ofNat 8 v.toNat := by
  rw [byte0Field, BitVec.extractLsb'_append_eq_of_add_le (by decide)]
  rfl

/-- The reserved bits of a B8 operand are 0 exactly when the operand is a byte (R67). -/
theorem reserved_append_eq_zero_iff (opc : Byte) (v : Operand) :
    (opc ++ v : Word).extractLsb' 8 16 = 0 ↔ v.toNat < 256 := by
  have reserved : (v.extractLsb' 8 16).toNat = v.toNat / 256 := by
    rw [BitVec.extractLsb'_toNat, Nat.shiftRight_eq_div_pow]
    omega
  rw [BitVec.extractLsb'_append_eq_of_add_le (by decide), ← BitVec.toNat_inj, reserved]
  exact Nat.div_eq_zero_iff_lt (by decide)

theorem formatB8_append (opc : Byte) (v : Operand) (mk : Byte → Instr) :
    formatB8 (opc ++ v) mk =
      if v.toNat < 256 then .ok (mk (BitVec.ofNat 8 v.toNat)) else .error (.reservedBitSet opc) := by
  simp only [formatB8, reserved_append_eq_zero_iff, byte0Field_append, opcField_append]

/-! ### A word that decodes runs its command -/

theorem runs_of_decode_ok {w : Word} {i : Instr} (h : decode w = .ok i) : Runs w i := by
  intro s rest
  rw [step, nextEvent_cons _ _ rest rfl]
  simp only [h]
  rfl

/-- An opcode whose words are decoded by format B8 carries a byte below reserved bits (R67). -/
theorem encodedB8_of_decode {opc : Byte} {mk : Byte → Instr}
    (h : ∀ v : Operand, decode (opc ++ v) = formatB8 (opc ++ v) mk) : EncodedB8 opc mk := by
  intro v
  have hd := (h v).trans (formatB8_append opc v mk)
  split <;> rename_i hv
  · exact runs_of_decode_ok (hd.trans (if_pos hv))
  · exact rejects_of_decode_error (hd.trans (if_neg hv))

/-! ### Responses -/

theorem respond_eq_answered (st : Status) (v : Operand) (s : State) :
    respond st v s = .next (answered s st.code v) := rfl

theorem zext_eq_ofNat {n : Nat} (v : BitVec n) : zext v = BitVec.ofNat 24 v.toNat :=
  (BitVec.ofNat_toNat 24 v).symm

end Sys2Proof.Proofs
end

section
/-! PROOFS. GF_EXP (R88, R92) and GF_LOG (R93): their answers and their words. -/

namespace Sys2Proof.Proofs

open Sys2Proof.Machine Sys2Proof.Spec

/-! ### GF_EXP -/

/-- R88's index with truncated remainders is the Euclidean remainder: the inner one lies above -255, so 255 more than it
is not negative, and it differs from n by a multiple of 255. -/
theorem tmod_add_tmod_eq_emod (n : Int) : Int.tmod (Int.tmod n 255 + 255) 255 = n % 255 := by
  have hlow : -255 < Int.tmod n 255 := Int.lt_tmod_of_pos n (by decide)
  have hmul : Int.tmod n 255 = n - 255 * Int.tdiv n 255 := Int.tmod_def n 255
  rw [Int.tmod_eq_emod_of_nonneg (by omega)]
  omega

theorem gfExp_eq_expEntry (n : Int) : gfExp n = expEntry (n % 255).toNat := by
  rw [gfExp, tmod_add_tmod_eq_emod]

theorem exec_gfExp (n : Int) (s : State) :
    exec (.gfExp n) s = .next (answered s 0x00 (BitVec.ofNat 24 (expEntry (n % 255).toNat).toNat)) := by
  rw [← gfExp_eq_expEntry, ← zext_eq_ofNat]
  exact respond_eq_answered .ok _ s

/-- Every word under the opcode of GF_EXP is legal (R69, R92). -/
theorem decode_gfExp_word (v : Operand) : decode (0x01#8 ++ v) = .ok (.gfExp v.toInt) := by
  simp [decode, formatI24, sext24]

/-- The two's complement value of an operand area (R11). -/
theorem operand_toInt (v : Operand) :
    v.toInt = if v.toNat < 8388608 then (v.toNat : Int) else (v.toNat : Int) - 16777216 := by
  rw [BitVec.toInt_eq_toNat_cond]
  split <;> split <;> omega

/-- Settles O15: the answer through the Euclidean index, the words through format I24. -/
theorem gfExpCommand : Obligations.GfExpCommand := by
  refine ⟨exec_gfExp, fun v => ?_⟩
  rw [← operand_toInt]
  exact runs_of_decode_ok (decode_gfExp_word v)

/-! ### GF_LOG -/

theorem exec_gfLog_zero (s : State) : exec (.gfLog 0) s = .next (answered s 0x05 0) := rfl

theorem exec_gfLog_of_ne_zero {v : Byte} (hv : v ≠ 0) (s : State) :
    exec (.gfLog v) s = .next (answered s 0x00 (BitVec.ofNat 24 (logEntry v).toNat)) := by
  rw [← zext_eq_ofNat]
  exact if_neg hv

theorem decode_gfLog_word (v : Operand) : decode (0x02#8 ++ v) = formatB8 (0x02#8 ++ v) .gfLog := by
  simp [decode]

/-- Settles O16: the answer to v is LOG[v], an index of v in EXP. -/
theorem gfLogCommand : Obligations.GfLogCommand := by
  refine ⟨exec_gfLog_zero, fun v s hv => ?_, encodedB8_of_decode decode_gfLog_word⟩
  exact ⟨(logEntry v).toNat, logEntry_le v hv, expEntry_logEntry v hv, exec_gfLog_of_ne_zero hv s⟩

end Sys2Proof.Proofs
end

section
/-! PROOFS. A command word under an opcode of format N or of format IV or RC (R66, R70, R71). -/

namespace Sys2Proof.Proofs

open Sys2Proof.Machine Sys2Proof.Spec

/-- A word that decodes exactly under a condition on its operand runs its command then and is rejected otherwise. -/
theorem runs_or_rejects_of_decode {w : Word} {i : Instr} {e : DecodeReject} {p : Prop} [Decidable p]
    (h : decode w = if p then .ok i else .error e) : if p then Runs w i else Rejects w := by
  split
  case isTrue hp => exact runs_of_decode_ok (h.trans (if_pos hp))
  case isFalse hp => exact rejects_of_decode_error (h.trans (if_neg hp))

/-! ### Format N -/

theorem formatN_append (opc : Byte) (v : Operand) (i : Instr) :
    formatN (opc ++ v) i = if v = 0 then .ok i else .error (.reservedBitSet opc) := by
  simp only [formatN, operandField_append, opcField_append]

/-- An opcode whose words are decoded by format N carries an operand area of zeros only (R66). -/
theorem encodedN_of_decode {opc : Byte} {i : Instr}
    (h : ∀ v : Operand, decode (opc ++ v) = formatN (opc ++ v) i) : EncodedN opc i :=
  fun v => runs_or_rejects_of_decode ((h v).trans (formatN_append opc v i))

/-! ### Formats IV and RC -/

/-- The upper byte field of an operand, as a number (R70, R71). -/
theorem byte1Field_append (opc : Byte) (v : Operand) : byte1Field (opc ++ v) = BitVec.ofNat 8 (v.toNat / 256) := by
  rw [byte1Field, BitVec.extractLsb'_append_eq_of_add_le (by decide), BitVec.extractLsb',
    Nat.shiftRight_eq_div_pow]

/-- The reserved byte is 0 exactly when the operand is two bytes (R70, R71). -/
theorem byte2Field_append_eq_zero_iff (opc : Byte) (v : Operand) :
    byte2Field (opc ++ v) = 0 ↔ v.toNat < 65536 := by
  have reserved : (v.extractLsb' 16 8).toNat = v.toNat / 65536 := by
    rw [BitVec.extractLsb'_toNat, Nat.shiftRight_eq_div_pow]
    omega
  rw [byte2Field, BitVec.extractLsb'_append_eq_of_add_le (by decide), ← BitVec.toNat_inj, reserved]
  exact Nat.div_eq_zero_iff_lt (by decide)

theorem formatTwo_append (opc : Byte) (v : Operand) (mk : Byte → Byte → Instr) :
    formatTwo (opc ++ v) mk =
      if v.toNat < 65536 then .ok (mk (BitVec.ofNat 8 (v.toNat / 256)) (BitVec.ofNat 8 v.toNat))
      else .error (.reservedBitSet opc) := by
  simp only [formatTwo, byte2Field_append_eq_zero_iff, byte1Field_append, byte0Field_append, opcField_append]

/-- An opcode whose words are decoded as two bytes carries them below reserved bits (R70, R71). -/
theorem encodedTwo_of_decode {opc : Byte} {mk : Byte → Byte → Instr}
    (h : ∀ v : Operand, decode (opc ++ v) = formatTwo (opc ++ v) mk) : EncodedTwo opc mk :=
  fun v => runs_or_rejects_of_decode ((h v).trans (formatTwo_append opc v mk))

end Sys2Proof.Proofs
end

section
/-! PROOFS. The commands of the codeword buffer and the generator (R100 to R103): CW_WRITE, CW_READ, SET_DLEN and
GEN_READ, each by whether its operand is in range. -/

namespace Sys2Proof.Proofs

open Sys2Proof.Machine Sys2Proof.Spec Sys2Proof.Laws

/-! ### CW_WRITE -/

theorem cwIndexInRange_iff (idx : Byte) : cwIndexInRange idx = true ↔ idx.toNat < 44 := by
  rw [cwIndexInRange, decide_eq_true_iff, Nat.lt_succ_iff]

theorem writeCw_of_lt (v : Codewords) {i : Nat} (h : i < 44) (b : Byte) : writeCw v i b = v.set i b h := by
  apply Vector.ext
  intro j hj
  rw [writeCw, Vector.getElem_setIfInBounds hj, Vector.getElem_set]

theorem exec_cwWrite_of_lt {idx : Byte} (h : idx.toNat < 44) (val : Byte) (s : State) :
    exec (.cwWrite idx val) s = .next (answered { s with cw := s.cw.set idx.toNat val h } 0x00 0) := by
  rw [← writeCw_of_lt s.cw h val]
  exact if_pos ((cwIndexInRange_iff idx).mpr h)

theorem exec_cwWrite_of_ge {idx : Byte} (h : ¬idx.toNat < 44) (val : Byte) (s : State) :
    exec (.cwWrite idx val) s = .next (answered s 0x02 0) :=
  if_neg (mt (cwIndexInRange_iff idx).mp h)

theorem decode_cwWrite_word (v : Operand) : decode (0x10#8 ++ v) = formatTwo (0x10#8 ++ v) .cwWrite := by
  simp [decode]

/-- Settles O17: the index is below 44 or it is not; the words are of format IV. -/
theorem cwWriteCommand : Obligations.CwWriteCommand := by
  refine ⟨fun idx val s => ?_, encodedTwo_of_decode decode_cwWrite_word⟩
  split
  case isTrue h => exact exec_cwWrite_of_lt h val s
  case isFalse h => exact exec_cwWrite_of_ge h val s

/-! ### CW_READ -/

theorem exec_cwRead_of_lt {idx : Byte} (h : idx.toNat < 44) (s : State) :
    exec (.cwRead idx) s = .next (answered s 0x00 (BitVec.ofNat 24 (s.cw[idx.toNat]'h).toNat)) := by
  rw [← readCw_of_lt s.cw h, ← zext_eq_ofNat]
  exact if_pos ((cwIndexInRange_iff idx).mpr h)

theorem exec_cwRead_of_ge {idx : Byte} (h : ¬idx.toNat < 44) (s : State) :
    exec (.cwRead idx) s = .next (answered s 0x02 0) :=
  if_neg (mt (cwIndexInRange_iff idx).mp h)

theorem decode_cwRead_word (v : Operand) : decode (0x11#8 ++ v) = formatB8 (0x11#8 ++ v) .cwRead := by
  simp [decode]

/-- Settles O18: the index is below 44 or it is not; the words are of format B8. -/
theorem cwReadCommand : Obligations.CwReadCommand := by
  refine ⟨fun idx s => ?_, encodedB8_of_decode decode_cwRead_word⟩
  split
  case isTrue h => exact exec_cwRead_of_lt h s
  case isFalse h => exact exec_cwRead_of_ge h s

/-! ### SET_DLEN -/

theorem exec_setDlen_of_le {n : Byte} (h : n.toNat ≤ 34) (s : State) :
    exec (.setDlen n) s = .next (answered { s with dlen := BitVec.ofNat 6 n.toNat, eclen := 0 } 0x00 0) := by
  rw [BitVec.ofNat_toNat]
  exact if_pos (decide_eq_true h)

theorem exec_setDlen_of_gt {n : Byte} (h : ¬n.toNat ≤ 34) (s : State) :
    exec (.setDlen n) s = .next (answered s 0x02 0) :=
  if_neg (mt of_decide_eq_true h)

theorem decode_setDlen_word (v : Operand) : decode (0x12#8 ++ v) = formatB8 (0x12#8 ++ v) .setDlen := by
  simp [decode]

/-- Settles O19: the length is at most 34 or it is not; the words are of format B8. -/
theorem setDlenCommand : Obligations.SetDlenCommand := by
  refine ⟨fun n s => ?_, encodedB8_of_decode decode_setDlen_word⟩
  split
  case isTrue h => exact exec_setDlen_of_le h s
  case isFalse h => exact exec_setDlen_of_gt h s

/-! ### GEN_READ -/

/-- The entries of GEN are bytes, so the table holds them as they are listed (R20). -/
theorem genEntry_toNat : ∀ j ≤ 10, (genEntry j).toNat = genTable.getD j 0 := by decide

theorem exec_genRead_of_le {j : Byte} (h : j.toNat ≤ 10) (s : State) :
    exec (.genRead j) s = .next (answered s 0x00 (BitVec.ofNat 24 (genTable.getD j.toNat 0))) := by
  rw [← genEntry_toNat _ h, ← zext_eq_ofNat]
  exact if_pos (decide_eq_true h)

theorem exec_genRead_of_gt {j : Byte} (h : ¬j.toNat ≤ 10) (s : State) :
    exec (.genRead j) s = .next (answered s 0x02 0) :=
  if_neg (mt of_decide_eq_true h)

theorem decode_genRead_word (v : Operand) : decode (0x13#8 ++ v) = formatB8 (0x13#8 ++ v) .genRead := by
  simp [decode]

/-- Settles O20: the index is at most 10 or it is not; the words are of format B8. -/
theorem genReadCommand : Obligations.GenReadCommand := by
  refine ⟨fun j s => ?_, encodedB8_of_decode decode_genRead_word⟩
  split
  case isTrue h => exact exec_genRead_of_le h s
  case isFalse h => exact exec_genRead_of_gt h s

end Sys2Proof.Proofs
end

section
/-! PROOFS. The Reed-Solomon function (R95, R96): what one iteration does to each entry of the working buffer, hence
what the buffer holds before each iteration; RS_ENCODE (R104); and the zero leading coefficient (R96). -/

namespace Sys2Proof.Proofs

open Sys2Proof.Machine Sys2Proof.Spec Sys2Proof.Laws

/-! ### The leading coefficient -/

/-- exp undoes the log of a leading coefficient, and gives 1 for the zero lead (R96). -/
theorem gfExp_leadLog (lead : Byte) : gfExp (leadLog lead : Nat) = if lead = 0 then 1 else lead := by
  rw [gfExp_eq_expEntry, leadLog]
  split
  case isTrue => decide
  case isFalse h =>
    have hle := logEntry_le lead h
    have hmod : ((logEntry lead).toNat % 255 : Int).toNat = (logEntry lead).toNat := by omega
    rw [hmod, expEntry_logEntry lead h]

theorem gfExp_natCast (n : Nat) : gfExp (n : Int) = expEntry (n % 255) := by
  rw [gfExp_eq_expEntry]
  congr 1

/-! ### One iteration, entry by entry -/

/-- What the iteration from entry `i` with log `l` XORs into entry `k`, when its inner loop has run over 0..n-1. -/
def rsTerm (n i l k : Nat) : Byte := if i ≤ k ∧ k < i + n then gfExp ((genEntry (k - i)).toNat + l : Nat) else 0

theorem length_foldl_rsXorTerm (i l n : Nat) (r : List Byte) :
    ((List.range n).foldl (rsXorTerm i l) r).length = r.length := by
  induction n with
  | zero => rfl
  | succ n ih =>
    rw [List.range_succ, List.foldl_append]
    exact List.length_set.trans ih

@[simp] theorem length_rsIteration (r : List Byte) (i : Nat) : (rsIteration r i).length = r.length :=
  length_foldl_rsXorTerm i _ Config.genLen r

theorem getD_foldl_rsXorTerm (i l n : Nat) {r : List Byte} {k : Nat} (hk : k < r.length) :
    ((List.range n).foldl (rsXorTerm i l) r).getD k 0 = r.getD k 0 ^^^ rsTerm n i l k := by
  induction n with
  | zero => simp [rsTerm, show ¬(i ≤ k ∧ k < i) by omega]
  | succ n ih =>
    have hlen := length_foldl_rsXorTerm i l n r
    rw [List.range_succ, List.foldl_append, List.foldl_cons, List.foldl_nil, rsXorTerm]
    by_cases hn : i + n = k
    · subst hn
      have before : rsTerm n i l (i + n) = 0#8 := if_neg (by omega)
      have now : rsTerm (n + 1) i l (i + n) = gfExp ((genEntry n).toNat + l : Nat) := by simp [rsTerm]
      rw [List.getD_eq_getElem _ _ (by rw [List.length_set, hlen]; exact hk), List.getElem_set_self, ih, before, now,
        BitVec.xor_zero]
    · have same : rsTerm (n + 1) i l k = rsTerm n i l k := by
        have : (i ≤ k ∧ k < i + (n + 1)) ↔ (i ≤ k ∧ k < i + n) := by omega
        simp only [rsTerm, this]
      rw [same, ← ih, List.getD_eq_getElem?_getD, List.getElem?_set_ne hn, List.getD_eq_getElem?_getD]

/-- One iteration XORs the generator, times alpha to the log of the lead, into the entries i..i+10 (R95). -/
theorem getD_rsIteration {r : List Byte} {k : Nat} (hk : k < r.length) (i : Nat) :
    (rsIteration r i).getD k 0 = r.getD k 0 ^^^ rsTerm 11 i (leadLog (r.getD i 0)) k :=
  getD_foldl_rsXorTerm i _ 11 hk

/-! ### The working buffer before each iteration -/

theorem bufferBefore_succ (d : List Byte) (i : Nat) :
    bufferBefore d (i + 1) = rsIteration (bufferBefore d i) i := by
  rw [bufferBefore, List.range_succ, List.foldl_append]
  rfl

@[simp] theorem length_bufferBefore (d : List Byte) (i : Nat) : (bufferBefore d i).length = d.length + 10 := by
  induction i with
  | zero => simp [bufferBefore]
  | succ i ih => rw [bufferBefore_succ, length_rsIteration, ih]

theorem remaining_succ (d : List Byte) (i k : Nat) :
    remaining d (i + 1) k = remaining d i k ^^^ rsTerm 11 i (leadLog (remaining d i i)) k := by
  have : (i ≤ k ∧ k ≤ i + 10) ↔ (i ≤ k ∧ k < i + 11) := by omega
  simp only [remaining, rsTerm, gfExp_natCast, leadLog, this]

/-- The working buffer before iteration `i` holds the entries of the reference recurrence (R95). -/
theorem getD_bufferBefore (d : List Byte) : ∀ i ≤ d.length, ∀ k < d.length + 10,
    (bufferBefore d i).getD k 0 = remaining d i k := by
  intro i
  induction i with
  | zero =>
    intro _ k hk
    rcases Nat.lt_or_ge k d.length with h | h
    · exact List.getD_append _ _ _ _ h
    · rw [bufferBefore, List.range_zero, List.foldl_nil, List.getD_append_right _ _ _ _ h,
        List.getD_replicate _ (by omega), remaining, List.getD_eq_default _ _ h]
  | succ i ih =>
    intro hi k hk
    have entries := ih (by omega)
    rw [bufferBefore_succ, getD_rsIteration (by rw [length_bufferBefore]; exact hk), entries k hk,
      entries i (by omega), remaining_succ]

/-! ### The EC bytes -/

theorem rsEncode_of_length_pos {d : List Byte} (h : 0 < d.length) :
    rsEncode d = ((bufferBefore d d.length).drop d.length).take 10 :=
  if_neg h.ne'

@[simp] theorem length_rsEncode (d : List Byte) : (rsEncode d).length = if d.length = 0 then 0 else 10 := by
  split
  case isTrue h => rw [rsEncode, if_pos h, List.length_nil]
  case isFalse h => simp [rsEncode_of_length_pos (Nat.pos_of_ne_zero h)]

/-- EC byte `j` is entry N + j of the buffer after the N iterations (R95). -/
theorem getD_rsEncode {d : List Byte} (h : 0 < d.length) {j : Nat} (hj : j < 10) :
    (rsEncode d).getD j 0 = remaining d d.length (d.length + j) := by
  rw [rsEncode_of_length_pos h, ← getD_bufferBefore d _ le_rfl _ (Nat.add_lt_add_left hj _)]
  simp [List.getElem?_take_of_lt hj]

/-! ### RS_ENCODE -/

@[simp] theorem length_dataBytes (s : State) : (dataBytes s).length = s.dlen.toNat := by simp [dataBytes]

/-- RS_ENCODE writes the EC bytes of the data segment after it and answers their number (R104). -/
theorem exec_rsEncode (s : State) :
    exec .rsEncode s =
      .next (answered
        { s with
          cw := writeCwFrom s.cw s.dlen.toNat (rsEncode (dataBytes s))
          eclen := BitVec.ofNat 4 (rsEncode (dataBytes s)).length }
        0x00 (zext (BitVec.ofNat 4 (rsEncode (dataBytes s)).length))) := rfl

theorem toNat_dlen_eq_zero_iff (s : State) : s.dlen.toNat = 0 ↔ s.dlen = 0 := BitVec.toNat_inj (y := 0#6)

theorem eclen_after_rsEncode (s : State) :
    BitVec.ofNat 4 (rsEncode (dataBytes s)).length = if s.dlen = 0 then 0 else 10 := by
  simp only [length_rsEncode, length_dataBytes, toNat_dlen_eq_zero_iff]
  split <;> rfl

/-- CW after RS_ENCODE: the EC bytes in the ten entries after a data segment that is not empty, the old entries
elsewhere. -/
theorem writeCwFrom_rsEncode (s : State) :
    writeCwFrom s.cw s.dlen.toNat (rsEncode (dataBytes s)) = Vector.ofFn fun i : Fin 44 =>
      if s.dlen ≠ 0 ∧ s.dlen.toNat ≤ i.val ∧ i.val < s.dlen.toNat + 10 then
        remaining (dataBytes s) s.dlen.toNat i.val
      else s.cw[i] := by
  refine codewords_ext fun i hi => ?_
  rw [readCw_writeCwFrom, length_rsEncode, length_dataBytes, readCw_of_lt _ hi, readCw_of_lt _ hi,
    Vector.getElem_ofFn]
  by_cases h0 : s.dlen = 0
  · have hlen := (toNat_dlen_eq_zero_iff s).mpr h0
    rw [if_pos hlen, if_neg (by omega), if_neg (fun h => h.1 h0)]
    rfl
  · have hlen := mt (toNat_dlen_eq_zero_iff s).mp h0
    simp only [hlen, if_false, hi, and_true, ne_eq, h0, not_false_iff, true_and]
    split
    case isTrue h =>
      obtain ⟨hlow, hhigh⟩ := h
      rw [getD_rsEncode (by rw [length_dataBytes]; omega) (by omega), length_dataBytes,
        Nat.add_sub_cancel' hlow]
    case isFalse => rfl

theorem decode_rsEncode_word (v : Operand) : decode (0x14#8 ++ v) = formatN (0x14#8 ++ v) .rsEncode := by
  simp [decode]

/-- Settles O21: CW agrees entry by entry, ECLEN and the answer are the number of EC bytes; the words have format N. -/
theorem rsEncodeCommand : Obligations.RsEncodeCommand := by
  refine ⟨fun s => ?_, encodedN_of_decode decode_rsEncode_word⟩
  have answer : zext (if s.dlen = 0 then (0 : BitVec 4) else 10) = if s.dlen = 0 then 0 else 10 := by
    split <;> rfl
  rw [exec_rsEncode, writeCwFrom_rsEncode, eclen_after_rsEncode, answer]

/-! ### A zero leading coefficient -/

/-- The dropped term after an iteration: the lead and alpha to its log cancel, unless the lead is 0 (R96). -/
theorem getD_rsIteration_lead {r : List Byte} {i : Nat} (hi : i < r.length) :
    (rsIteration r i).getD i 0 = if r.getD i 0 = 0 then 1 else 0 := by
  have own : rsTerm 11 i (leadLog (r.getD i 0)) i = gfExp (leadLog (r.getD i 0) : Nat) := by
    have monic : (genEntry 0).toNat = 0 := rfl
    simp [rsTerm, monic]
  rw [getD_rsIteration hi, own, gfExp_leadLog]
  split
  case isTrue h => rw [h]; rfl
  case isFalse => exact BitVec.xor_self

/-- Two leads of the same log leave the same entries after the first, before every iteration. -/
theorem remaining_cons_eq_of_leadLog {a b : Byte} (hab : leadLog a = leadLog b) (d : List Byte) (i : Nat) :
    ∀ k, 0 < k → remaining (a :: d) i k = remaining (b :: d) i k := by
  induction i with
  | zero =>
    intro k hk
    obtain ⟨k, rfl⟩ := Nat.exists_eq_succ_of_ne_zero hk.ne'
    rfl
  | succ i ih =>
    intro k hk
    have lead : leadLog (remaining (a :: d) i i) = leadLog (remaining (b :: d) i i) := by
      cases i with
      | zero => exact hab
      | succ i => rw [ih _ i.succ_pos]
    rw [remaining_succ, remaining_succ, ih k hk, lead]

theorem rsEncode_cons_eq_of_leadLog {a b : Byte} (hab : leadLog a = leadLog b) (d : List Byte) :
    rsEncode (a :: d) = rsEncode (b :: d) := by
  refine List.ext_getElem (by simp) fun j hj hj' => ?_
  have hj10 : j < 10 := by simpa using hj
  rw [← List.getD_eq_getElem _ 0 hj, ← List.getD_eq_getElem _ 0 hj', getD_rsEncode (by simp) hj10,
    getD_rsEncode (by simp) hj10]
  exact remaining_cons_eq_of_leadLog hab d _ _ (by simp)

/-- Settles O24: a zero lead has the log 0, as the lead 1 has. -/
theorem zeroLeadActsAsOne : Obligations.ZeroLeadActsAsOne := by
  refine ⟨fun r i hi hlead => ⟨?_, fun j hj => ?_⟩, fun r i hi hlead => ?_,
    rsEncode_cons_eq_of_leadLog (by decide)⟩
  · rw [getD_rsIteration_lead (by omega), if_pos hlead]
  · have own : rsTerm 11 i (leadLog 0) (i + j) = gfExp ((genEntry j).toNat : Nat) := by
      simp [rsTerm, leadLog, show j < 11 by omega]
    rw [getD_rsIteration (by omega), hlead, own]
  · rw [getD_rsIteration_lead (by omega), if_neg hlead]

end Sys2Proof.Proofs
end

section
/-! PROOFS. BCH_FMT (R106, R108): every turn of the reduction takes a shifted G15 off and clears the top bit, so what is
left is the remainder; and the words of format D5 (R68). -/

namespace Sys2Proof.Proofs

open Sys2Proof.Machine Sys2Proof.Spec

/-! ### Format D5 -/

/-- The five bits of a D5 operand, as the number the operand holds (R68). -/
theorem five_append (opc : Byte) (v : Operand) :
    (opc ++ v : Word).extractLsb' 0 5 = BitVec.ofNat 5 v.toNat := by
  rw [BitVec.extractLsb'_append_eq_of_add_le (by decide)]
  rfl

/-- The reserved bits of a D5 operand are 0 exactly when the operand is below 32 (R68). -/
theorem reservedD5_append_eq_zero_iff (opc : Byte) (v : Operand) :
    (opc ++ v : Word).extractLsb' 5 19 = 0 ↔ v.toNat < 32 := by
  have reserved : (v.extractLsb' 5 19).toNat = v.toNat / 32 := by
    rw [BitVec.extractLsb'_toNat, Nat.shiftRight_eq_div_pow]
    omega
  rw [BitVec.extractLsb'_append_eq_of_add_le (by decide), ← BitVec.toNat_inj, reserved]
  exact Nat.div_eq_zero_iff_lt (by decide)

theorem formatD5_append (opc : Byte) (v : Operand) (mk : BitVec 5 → Instr) :
    formatD5 (opc ++ v) mk =
      if v.toNat < 32 then .ok (mk (BitVec.ofNat 5 v.toNat)) else .error (.reservedBitSet opc) := by
  simp only [formatD5, reservedD5_append_eq_zero_iff, five_append, opcField_append]

theorem decode_bchFmt_word (v : Operand) : decode (0x08#8 ++ v) = formatD5 (0x08#8 ++ v) .bchFmt := by
  simp [decode]

/-! ### A turn of the reduction clears the top bit -/

theorem bitlen_le_iff (v n : Nat) : bitlen v ≤ n ↔ v < 2 ^ n := by
  rw [bitlen]
  split
  case isTrue h => simp [h]
  case isFalse h => exact Nat.log2_lt h

theorem xor_lt_two_pow_of_same_top {a b n : Nat} (ha : 2 ^ n ≤ a) (ha' : a < 2 ^ (n + 1)) (hb : 2 ^ n ≤ b)
    (hb' : b < 2 ^ (n + 1)) : a ^^^ b < 2 ^ n := by
  have top : ∀ c, 2 ^ n ≤ c → c < 2 ^ (n + 1) → c / 2 ^ n = 1 := fun c h h' =>
    Nat.div_eq_of_lt_le (by omega) (by rw [Nat.pow_succ] at h'; omega)
  rw [← Nat.div_eq_zero_iff_lt (Nat.two_pow_pos n), Nat.xor_div_two_pow, top a ha ha', top b hb hb']
  rfl

/-- One turn of R106's loop. -/
def bchTurn (b : Nat) : Nat := b ^^^ (Config.g15 <<< (bitlen b - 11))

theorem bchReduce_succ_of_ge {b : Nat} (h : 11 ≤ bitlen b) (fuel : Nat) :
    bchReduce (fuel + 1) b = bchReduce fuel (bchTurn b) := if_pos h

theorem bchReduce_succ_of_lt {b : Nat} (h : ¬11 ≤ bitlen b) (fuel : Nat) : bchReduce (fuel + 1) b = b := if_neg h

/-- G15 has bit 10 at its top, so shifted under the top bit of b it cancels that bit. -/
theorem bchTurn_lt {b n : Nat} (h : 11 ≤ bitlen b) (hb : b < 2 ^ (n + 1)) : bchTurn b < 2 ^ n := by
  obtain ⟨k, hk⟩ := Nat.exists_eq_add_of_le h
  have hlow : 2 ^ (10 + k) ≤ b := Nat.not_lt.mp (mt (bitlen_le_iff b _).mpr (by omega))
  have hhigh : b < 2 ^ (10 + k + 1) := (bitlen_le_iff b _).mp (by omega)
  have hkn : 10 + k ≤ n := by
    have := (bitlen_le_iff b _).mpr hb
    omega
  have shifted : Config.g15 <<< k = 1335 * 2 ^ k := Nat.shiftLeft_eq _ _
  rw [bchTurn, show bitlen b - 11 = k by omega, shifted]
  refine lt_of_lt_of_le (xor_lt_two_pow_of_same_top hlow hhigh ?_ ?_) (Nat.pow_le_pow_right (by decide) hkn)
  · rw [Nat.pow_add]
    exact Nat.mul_le_mul_right _ (by decide)
  · rw [Nat.add_right_comm, Nat.pow_add]
    exact Nat.mul_lt_mul_of_pos_right (by decide) (Nat.two_pow_pos k)

/-- Each turn shortens b by a bit, so n turns bring 10 + n bits down to 10. -/
theorem bchReduce_lt (n : Nat) : ∀ b < 2 ^ (10 + n), bchReduce n b < 1024 := by
  induction n with
  | zero => exact fun b hb => hb
  | succ n ih =>
    intro b hb
    by_cases h : 11 ≤ bitlen b
    · rw [bchReduce_succ_of_ge h]
      exact ih _ (bchTurn_lt h hb)
    · rw [bchReduce_succ_of_lt h]
      exact (bitlen_le_iff b 10).mp (by omega)

/-! ### What is left is a remainder -/

/-- The carry-less product of `g` with the `n` low bits of `q`. -/
def lowProduct (n q g : Nat) : Nat :=
  (List.range n).foldl (fun acc i => if q.testBit i then acc ^^^ (g <<< i) else acc) 0

theorem lowProduct_succ (n q g : Nat) :
    lowProduct (n + 1) q g = lowProduct n q g ^^^ (if q.testBit n then g <<< n else 0) := by
  rw [lowProduct, List.range_succ, List.foldl_append, List.foldl_cons, List.foldl_nil, ← lowProduct]
  split
  case isTrue => rfl
  case isFalse => exact (Nat.xor_zero _).symm

/-- Bit `k` of `q` carries the summand g << k of the product. -/
theorem lowProduct_xor_two_pow (n k q g : Nat) :
    lowProduct n (q ^^^ 2 ^ k) g = lowProduct n q g ^^^ (if k < n then g <<< k else 0) := by
  induction n with
  | zero => exact (Nat.xor_zero 0).symm
  | succ n ih =>
    rw [lowProduct_succ, lowProduct_succ, ih, Nat.testBit_xor, Nat.testBit_two_pow]
    rcases Nat.lt_trichotomy k n with h | h | h
    · simp [h, h.ne, Nat.lt_succ_of_lt h, Nat.xor_right_comm]
    · subst h
      cases q.testBit k <;> simp
    · simp [h.ne', h.not_gt, show ¬k < n + 1 by omega]

theorem clmul_eq_lowProduct (q g : Nat) : clmul q g = lowProduct 5 q g := rfl

theorem clmul_xor_two_pow {k : Nat} (hk : k < 5) (q g : Nat) :
    clmul (q ^^^ 2 ^ k) g = clmul q g ^^^ (g <<< k) := by
  rw [clmul_eq_lowProduct, clmul_eq_lowProduct, lowProduct_xor_two_pow, if_pos hk]

/-- The turns take a carry-less multiple of G15 off a 15-bit number (R106). -/
theorem exists_clmul_xor_bchReduce (n : Nat) :
    ∀ b < 2 ^ 15, ∃ q < 32, clmul q Config.g15 ^^^ bchReduce n b = b := by
  induction n with
  | zero => exact fun b _ => ⟨0, by decide, Nat.zero_xor b⟩
  | succ n ih =>
    intro b hb
    by_cases h : 11 ≤ bitlen b
    · have hk : bitlen b - 11 < 5 := by
        have := (bitlen_le_iff b 15).mpr hb
        omega
      obtain ⟨q, hq, hmul⟩ := ih (bchTurn b) ((bchTurn_lt h hb).trans (by decide))
      refine ⟨q ^^^ 2 ^ (bitlen b - 11), Nat.xor_lt_two_pow (n := 5) hq (Nat.pow_lt_pow_right (by decide) hk), ?_⟩
      rw [clmul_xor_two_pow hk, bchReduce_succ_of_ge h, Nat.xor_right_comm, hmul, bchTurn, Nat.xor_assoc,
        Nat.xor_self, Nat.xor_zero]
    · rw [bchReduce_succ_of_lt h]
      exact ⟨0, by decide, Nat.zero_xor b⟩

/-! ### BCH_FMT -/

theorem descriptor_shiftLeft_lt (d : BitVec 5) : d.toNat <<< 10 < 2 ^ 15 := by
  rw [Nat.shiftLeft_eq]
  omega

/-- The format word of a descriptor fits its 15 bits, so none is lost (R106). -/
theorem bchFormat_toNat (d : BitVec 5) :
    (bchFormat d.toNat).toNat = ((d.toNat <<< 10) ||| bchReduce 15 (d.toNat <<< 10)) ^^^ 0x5412 := by
  have rem : bchReduce 15 (d.toNat <<< 10) < 2 ^ 15 :=
    (bchReduce_lt 15 _ ((descriptor_shiftLeft_lt d).trans (by decide))).trans (by decide)
  rw [bchFormat, BitVec.toNat_ofNat]
  exact Nat.mod_eq_of_lt (Nat.xor_lt_two_pow (Nat.or_lt_two_pow (descriptor_shiftLeft_lt d) rem) (by decide))

theorem exec_bchFmt (d : BitVec 5) (s : State) :
    exec (.bchFmt d) s = .next (answered s 0x00
      (BitVec.ofNat 24 (((d.toNat <<< 10) ||| bchReduce 15 (d.toNat <<< 10)) ^^^ 0x5412))) := by
  rw [← bchFormat_toNat, ← zext_eq_ofNat]
  exact respond_eq_answered .ok _ s

/-- Settles O27: b is what the reduction leaves of d << 10 and q collects its turns; the words are of format D5. -/
theorem bchFmtCommand : Obligations.BchFmtCommand := by
  refine ⟨fun d => ?_, fun v => runs_or_rejects_of_decode ((decode_bchFmt_word v).trans (formatD5_append _ v _))⟩
  have hd := descriptor_shiftLeft_lt d
  obtain ⟨q, hq, hmul⟩ := exists_clmul_xor_bchReduce 15 _ hd
  exact ⟨bchReduce 15 (d.toNat <<< 10), q, bchReduce_lt 15 _ (hd.trans (by decide)), hq, hmul, exec_bchFmt d⟩

end Sys2Proof.Proofs
end

section
/-! PROOFS. The structural patterns (R110 to R116): the writes of a placement are exactly the cells of its structural
set, each in the pattern's colour, so they lay that pattern over the matrix. -/

namespace Sys2Proof.Proofs

open Sys2Proof.Machine Sys2Proof.Spec

/-! ### Matrices given cell by cell -/

theorem readCell_tabulate (f : Nat → Nat → CellState) {r c : Nat} (hr : r < 25) (hc : c < 25) :
    readCell (tabulate f) r c = f r c := by
  simp [readCell_of_lt _ hr hc, tabulate]

theorem readCell_overlay (m : Grid) (inSet : Nat → Nat → Bool) (colour : Nat → Nat → CellState) {r c : Nat}
    (hr : r < 25) (hc : c < 25) :
    readCell (overlay m inSet colour) r c = if inSet r c then colour r c else readCell m r c :=
  readCell_tabulate _ hr hc

theorem allUnset_eq_tabulate : Grid.allUnset = tabulate fun _ _ => .unset :=
  grid_ext fun r hr c hc => by rw [readCell_allUnset, readCell_tabulate _ hr hc]

/-! ### A list of writes as an overlay -/

/-- When the writes to a cell agree, it holds what they store, or what it held where there is none. -/
theorem readCell_placeCells_of_agree {r c : Nat} (hr : r < 25) (hc : c < 25) {y : CellState} (ws : List CellWrite) :
    (∀ x, (r, c, x) ∈ ws → x = y) → ∀ m : Grid,
      readCell (placeCells m ws) r c = if (r, c, y) ∈ ws then y else readCell m r c := by
  induction ws with
  | nil => intro _ m; simp [placeCells]
  | cons w ws ih =>
    obtain ⟨r', c', x⟩ := w
    intro agree m
    rw [placeCells, ih (fun x hx => agree x (List.mem_cons_of_mem _ hx)), readCell_writeCell]
    by_cases here : r' = r ∧ c' = c
    · obtain ⟨rfl, rfl⟩ := here
      obtain rfl := agree x List.mem_cons_self
      simp [hr, hc]
    · have other : (r, c, y) ≠ (r', c', x) := by
        rintro ⟨⟩
        exact here ⟨rfl, rfl⟩
      have untouched : ¬(r' = r ∧ c' = c ∧ r' < 25 ∧ c' < 25) := fun ⟨hrow, hcol, _⟩ => here ⟨hrow, hcol⟩
      simp only [List.mem_cons, other, false_or, untouched, if_false]

/-- Writes that are exactly a pattern's cells, each in the pattern's colour, lay the pattern over the matrix. -/
theorem placeCells_eq_overlay {ws : List CellWrite} {inSet : Nat → Nat → Bool} {colour : Nat → Nat → CellState}
    (h : ∀ r < 25, ∀ c < 25, ∀ x, (r, c, x) ∈ ws ↔ inSet r c = true ∧ x = colour r c) (m : Grid) :
    placeCells m ws = overlay m inSet colour := by
  refine grid_ext fun r hr c hc => ?_
  rw [readCell_placeCells_of_agree hr hc ws (fun x hx => ((h r hr c hc x).mp hx).2), readCell_overlay _ _ _ hr hc]
  simp only [h r hr c hc, and_true]

/-! ### The finder patterns (R110, R111) -/

theorem finderTemplate_eq_colour : ∀ a < 8, ∀ b < 8, finderTemplate a b = finderColour a b := by decide

/-- A row or column and its mirror image have the same place counted from the symbol's edge. -/
theorem edgePlace_mirror {i : Nat} (hi : i < 8) :
    (if 24 - i ≤ 7 then 24 - i else 24 - (24 - i)) = if i ≤ 7 then i else 24 - i := by
  rw [if_neg (by omega), if_pos (by omega)]
  omega

/-- The rings are counted from the symbol's edge, so a block and its mirror image have the same colours (R111). -/
theorem finderColour_mirror_col {c : Nat} (hc : c < 8) (r : Nat) : finderColour r (24 - c) = finderColour r c := by
  simp only [finderColour, edgePlace_mirror hc]

theorem finderColour_mirror_row {r : Nat} (hr : r < 8) (c : Nat) : finderColour (24 - r) c = finderColour r c := by
  simp only [finderColour, edgePlace_mirror hr]

theorem mem_finderWrites_iff {r c : Nat} (hr : r < 25) (hc : c < 25) (x : CellState) :
    (r, c, x) ∈ finderWrites ↔ inFinder r c = true ∧ x = finderColour r c := by
  simp only [finderWrites, inFinder, Config.size, Nat.reduceSub, List.mem_flatMap, List.mem_range, List.mem_cons,
    List.not_mem_nil, or_false, Prod.mk.injEq, decide_eq_true_iff]
  constructor
  · rintro ⟨a, ha, b, hb, ⟨rfl, rfl, rfl⟩ | ⟨rfl, rfl, rfl⟩ | ⟨rfl, rfl, rfl⟩⟩
    · exact ⟨by omega, finderTemplate_eq_colour _ ha _ hb⟩
    · exact ⟨by omega, by rw [finderColour_mirror_col hb, finderTemplate_eq_colour _ ha _ hb]⟩
    · exact ⟨by omega, by rw [finderColour_mirror_row ha, finderTemplate_eq_colour _ ha _ hb]⟩
  · rintro ⟨⟨_, _⟩ | ⟨_, _⟩ | ⟨_, _⟩, rfl⟩
    · exact ⟨r, by omega, c, by omega, .inl ⟨rfl, rfl, (finderTemplate_eq_colour r (by omega) c (by omega)).symm⟩⟩
    · obtain ⟨b, hb, rfl⟩ : ∃ b < 8, c = 24 - b := ⟨24 - c, by omega, by omega⟩
      refine ⟨r, by omega, b, hb, .inr (.inl ⟨rfl, rfl, ?_⟩)⟩
      rw [finderColour_mirror_col hb, finderTemplate_eq_colour r (by omega) b hb]
    · obtain ⟨a, ha, rfl⟩ : ∃ a < 8, r = 24 - a := ⟨24 - r, by omega, by omega⟩
      refine ⟨a, ha, c, by omega, .inr (.inr ⟨rfl, rfl, ?_⟩)⟩
      rw [finderColour_mirror_row ha, finderTemplate_eq_colour a ha c (by omega)]

theorem placeCells_finderWrites (m : Grid) :
    placeCells m finderWrites = overlay m inFinder finderColour :=
  placeCells_eq_overlay (fun _ hr _ hc => mem_finderWrites_iff hr hc) m

/-! ### The timing pattern (R112) -/

/-- cell((i + 1) and 1) is Dark at even indices. -/
theorem timingBit_eq (i : Nat) : cellOf ((i + 1) % 2 == 1) = if i % 2 = 0 then .dark else .light := by
  rcases Nat.mod_two_eq_zero_or_one i with h | h <;> simp [cellOf, Nat.add_mod, h]

theorem mem_timingWrites_iff (r c : Nat) (x : CellState) :
    (r, c, x) ∈ timingWrites ↔ inTiming r c = true ∧ x = timingColour r c := by
  simp only [timingWrites, inTiming, List.mem_flatMap, List.mem_range'_1, List.mem_cons, List.not_mem_nil, or_false,
    Prod.mk.injEq, decide_eq_true_iff, timingBit_eq, timingColour]
  constructor
  · rintro ⟨i, ⟨hlow, hhigh⟩, ⟨rfl, rfl, rfl⟩ | ⟨rfl, rfl, rfl⟩⟩
    · exact ⟨by omega, rfl⟩
    · exact ⟨by omega, by rw [if_neg (c := r = 6) (by omega)]⟩
  · rintro ⟨⟨rfl, hlow, hhigh⟩ | ⟨rfl, hlow, hhigh⟩, rfl⟩
    · exact ⟨c, by omega, .inl ⟨rfl, rfl, rfl⟩⟩
    · exact ⟨r, by omega, .inr ⟨rfl, rfl, by rw [if_neg (c := r = 6) (by omega)]⟩⟩

theorem placeCells_timingWrites (m : Grid) :
    placeCells m timingWrites = overlay m inTiming timingColour :=
  placeCells_eq_overlay (fun r _ c _ => mem_timingWrites_iff r c) m

/-! ### The alignment pattern (R113) -/

/-- The ring of a cell of the block is its distance from the centre (18, 18). -/
theorem alignRing_colour : ∀ a < 5, ∀ b < 5,
    (if alignRing a b = 1 then CellState.light else .dark) = alignColour (16 + a) (16 + b) := by decide

theorem mem_alignWrites_iff (r c : Nat) (x : CellState) :
    (r, c, x) ∈ alignWrites ↔ inAlign r c = true ∧ x = alignColour r c := by
  simp only [alignWrites, inAlign, Config.alignCentre, Nat.reduceSub, List.mem_flatMap, List.mem_map, List.mem_range,
    Prod.mk.injEq, decide_eq_true_iff]
  constructor
  · rintro ⟨a, ha, b, hb, rfl, rfl, rfl⟩
    exact ⟨by omega, alignRing_colour a ha b hb⟩
  · rintro ⟨⟨_, _, _, _⟩, rfl⟩
    obtain ⟨a, rfl⟩ := Nat.exists_eq_add_of_le (m := 16) (n := r) (by omega)
    obtain ⟨b, rfl⟩ := Nat.exists_eq_add_of_le (m := 16) (n := c) (by omega)
    exact ⟨a, by omega, b, by omega, rfl, rfl, alignRing_colour a (by omega) b (by omega)⟩

theorem placeCells_alignWrites (m : Grid) :
    placeCells m alignWrites = overlay m inAlign alignColour :=
  placeCells_eq_overlay (fun r _ c _ => mem_alignWrites_iff r c) m

/-! ### The format cells (R114, R115) -/

/-- A(i) stands at the place i of R114's table, and it is not the dark module. -/
theorem formatCellA_listed : ∀ i < 15, formatCellA i ≠ (17, 8) ∧ formatCellA i ∈ formatACells ∧
    formatACells.idxOf (formatCellA i) = i := by decide

/-- B(i) stands at the place i of R114's table, and it is neither the dark module nor a cell of copy A. -/
theorem formatCellB_listed : ∀ i < 15, formatCellB i ≠ (17, 8) ∧ formatCellB i ∉ formatACells ∧
    formatBCells.idxOf (formatCellB i) = i := by decide

theorem formatACells_eq_map : formatACells = (List.range 15).map formatCellA := by decide

theorem formatBCells_eq_map : formatBCells = (List.range 15).map formatCellB := by decide

theorem formatColour_formatCellA (f : BitVec 15) {i : Nat} (hi : i < 15) :
    formatColour f.toNat (formatCellA i).1 (formatCellA i).2 = cellOf (f.getLsbD i) := by
  obtain ⟨notDarkModule, listed, index⟩ := formatCellA_listed i hi
  rw [formatColour, if_neg (fun h => notDarkModule (Prod.ext h.1 h.2))]
  simp only [listed, index, if_true]
  rfl

theorem formatColour_formatCellB (f : BitVec 15) {i : Nat} (hi : i < 15) :
    formatColour f.toNat (formatCellB i).1 (formatCellB i).2 = cellOf (f.getLsbD i) := by
  obtain ⟨notDarkModule, notA, index⟩ := formatCellB_listed i hi
  rw [formatColour, if_neg (fun h => notDarkModule (Prod.ext h.1 h.2))]
  simp only [notA, index, if_false]
  rfl

theorem onFormatRun_column_listed : ∀ r < 25, onFormatRun r = true →
    (r, 8) ∈ formatACells ++ formatBCells ++ [(17, 8)] := by decide

theorem onFormatRun_row_listed : ∀ c < 25, onFormatRun c = true →
    (8, c) ∈ formatACells ++ formatBCells ++ [(17, 8)] := by decide

theorem inFormat_of_listed : ∀ cell ∈ formatACells ++ formatBCells ++ [(17, 8)],
    inFormat cell.1 cell.2 = true := by decide

/-- FORMAT is the two copies and the dark module (R116). -/
theorem inFormat_iff {r c : Nat} (hr : r < 25) (hc : c < 25) :
    inFormat r c = true ↔ (r, c) ∈ formatACells ++ formatBCells ++ [(17, 8)] := by
  refine ⟨?_, inFormat_of_listed (r, c)⟩
  simp only [inFormat, Bool.or_eq_true, Bool.and_eq_true, beq_iff_eq]
  rintro (⟨rfl, hrun⟩ | ⟨rfl, hrun⟩)
  · exact onFormatRun_column_listed r hr hrun
  · exact onFormatRun_row_listed c hc hrun

theorem mem_formatWrites_iff (f : BitVec 15) {r c : Nat} (hr : r < 25) (hc : c < 25) (x : CellState) :
    (r, c, x) ∈ formatWrites f ↔ inFormat r c = true ∧ x = formatColour f.toNat r c := by
  rw [inFormat_iff hr hc, formatACells_eq_map, formatBCells_eq_map]
  simp only [formatWrites, List.mem_append, List.mem_flatMap, List.mem_map, List.mem_range, List.mem_cons,
    List.not_mem_nil, or_false, Config.size, Nat.reduceSub, Prod.mk.injEq]
  constructor
  · rintro (⟨i, hi, ⟨rfl, rfl, rfl⟩ | ⟨rfl, rfl, rfl⟩⟩ | ⟨rfl, rfl, rfl⟩)
    · exact ⟨.inl (.inl ⟨i, hi, rfl⟩), (formatColour_formatCellA f hi).symm⟩
    · exact ⟨.inl (.inr ⟨i, hi, rfl⟩), (formatColour_formatCellB f hi).symm⟩
    · exact ⟨.inr ⟨rfl, rfl⟩, rfl⟩
  · rintro ⟨(⟨i, hi, hcell⟩ | ⟨i, hi, hcell⟩) | ⟨rfl, rfl⟩, rfl⟩
    · obtain ⟨rfl, rfl⟩ := Prod.mk.inj hcell.symm
      exact .inl ⟨i, hi, .inl ⟨rfl, rfl, formatColour_formatCellA f hi⟩⟩
    · obtain ⟨rfl, rfl⟩ := Prod.mk.inj hcell.symm
      exact .inl ⟨i, hi, .inr ⟨rfl, rfl, formatColour_formatCellB f hi⟩⟩
    · exact .inr ⟨rfl, rfl, rfl⟩

theorem placeCells_formatWrites (f : BitVec 15) (m : Grid) :
    placeCells m (formatWrites f) = overlay m inFormat (formatColour f.toNat) :=
  placeCells_eq_overlay (fun _ hr _ hc => mem_formatWrites_iff f hr hc) m

end Sys2Proof.Proofs
end

section
/-! PROOFS. The commands of the symbol matrix (R117 to R122). The four placements share one answer, by the order of
their checks (R148), and differ in the pattern laid over the matrix. -/

namespace Sys2Proof.Proofs

open Sys2Proof.Machine Sys2Proof.Spec

/-! ### A placement's answer -/

/-- What a placement guarded by its own flag answers, by the order of R148. -/
theorem construct_answers (flag : Bool) {body : State → Host.Outcome State Fault Refusal} {s t : State}
    (placed : s.symerr = 0 → flag = false → body s = .next t) :
    construct (!flag) body s = .next
      (if s.symerr ≠ 0 then answered s 0x06 0
       else if flag = true then answered { s with symerr := 0x03 } 0x03 0
       else t) := by
  rcases construct_cases (!flag) body s with ⟨hsym, h⟩ | ⟨hsym, hflag, h⟩ | ⟨hsym, hflag, h⟩
  · rw [h, if_pos hsym]
    exact respond_eq_answered .symbolInvalid 0 s
  · rw [h, if_neg (not_not.mpr hsym), if_pos (by simpa using hflag)]
    exact respond_eq_answered .sequenceError 0 _
  · have hflag : flag = false := by simpa using hflag
    rw [h, if_neg (not_not.mpr hsym), hflag, if_neg Bool.false_ne_true]
    exact placed hsym hflag

/-- What a placement answers, for any matrix and flags it stores. -/
theorem respond_placed (s : State) (m : Grid) (f : Flags) :
    respond .ok 0 ((s.setM m).setFlags f) = .next (answered { s with m := m, flags := f } 0x00 0) := rfl

/-- What PLACE_FORMAT answers, for any matrix, format value and flags it stores. -/
theorem respond_formatPlaced (s : State) (m : Grid) (v : BitVec 15) (f : Flags) :
    respond .ok (zext v) (((s.setM m).setFmt v).setFlags f) =
      .next (answered { s with m := m, fmt := v, flags := f } 0x00 (BitVec.ofNat 24 v.toNat)) := by
  rw [← zext_eq_ofNat]
  rfl

/-! ### MATRIX_CLEAR -/

theorem exec_matrixClear (s : State) : exec .matrixClear s =
    .next (answered
      { s with
        m := tabulate fun _ _ => .unset
        flags := ⟨false, false, false, false, false⟩
        fmt := 0
        symerr := 0 } 0x00 0) := by
  simp only [exec, execMatrixClear, allUnset_eq_tabulate]
  rfl

theorem decode_matrixClear_word (v : Operand) : decode (0x20#8 ++ v) = formatN (0x20#8 ++ v) .matrixClear := by
  simp [decode]

/-- Settles O29: a matrix of Unset cells reads Unset in every cell; the words have format N. -/
theorem matrixClearCommand : Obligations.MatrixClearCommand :=
  ⟨exec_matrixClear, encodedN_of_decode decode_matrixClear_word⟩

/-! ### PLACE_FINDERS -/

theorem exec_placeFinders (s : State) : exec .placeFinders s = .next
    (if s.symerr ≠ 0 then answered s 0x06 0
     else if s.flags.find = true then answered { s with symerr := 0x03 } 0x03 0
     else answered
      { s with m := overlay s.m inFinder finderColour, flags := { s.flags with find := true } } 0x00 0) := by
  simp only [exec, execPlaceFinders, placeCells_finderWrites]
  exact construct_answers s.flags.find fun _ _ => respond_placed s _ _

theorem decode_placeFinders_word (v : Operand) : decode (0x21#8 ++ v) = formatN (0x21#8 ++ v) .placeFinders := by
  simp [decode]

/-- Settles O30: the writes are the cells of FINDER in their ring colours; the words have format N. -/
theorem placeFindersCommand : Obligations.PlaceFindersCommand :=
  ⟨exec_placeFinders, encodedN_of_decode decode_placeFinders_word⟩

/-! ### PLACE_TIMING -/

theorem exec_placeTiming (s : State) : exec .placeTiming s = .next
    (if s.symerr ≠ 0 then answered s 0x06 0
     else if s.flags.tim = true then answered { s with symerr := 0x03 } 0x03 0
     else answered
      { s with m := overlay s.m inTiming timingColour, flags := { s.flags with tim := true } } 0x00 0) := by
  simp only [exec, execPlaceTiming, placeCells_timingWrites]
  exact construct_answers s.flags.tim fun _ _ => respond_placed s _ _

theorem decode_placeTiming_word (v : Operand) : decode (0x22#8 ++ v) = formatN (0x22#8 ++ v) .placeTiming := by
  simp [decode]

/-- Settles O31: the writes are the cells of TIMING, Dark at even indices; the words have format N. -/
theorem placeTimingCommand : Obligations.PlaceTimingCommand :=
  ⟨exec_placeTiming, encodedN_of_decode decode_placeTiming_word⟩

/-! ### PLACE_ALIGN -/

theorem exec_placeAlign (s : State) : exec .placeAlign s = .next
    (if s.symerr ≠ 0 then answered s 0x06 0
     else if s.flags.aln = true then answered { s with symerr := 0x03 } 0x03 0
     else answered
      { s with m := overlay s.m inAlign alignColour, flags := { s.flags with aln := true } } 0x00 0) := by
  simp only [exec, execPlaceAlign, placeCells_alignWrites]
  exact construct_answers s.flags.aln fun _ _ => respond_placed s _ _

theorem decode_placeAlign_word (v : Operand) : decode (0x23#8 ++ v) = formatN (0x23#8 ++ v) .placeAlign := by
  simp [decode]

/-- Settles O32: the writes are the cells of ALIGN in their ring colours; the words have format N. -/
theorem placeAlignCommand : Obligations.PlaceAlignCommand :=
  ⟨exec_placeAlign, encodedN_of_decode decode_placeAlign_word⟩

/-! ### PLACE_FORMAT -/

/-- The format values of MASK 0..7 are those of R121, which fit 15 bits. -/
theorem bchFormat_formatDescriptor : ∀ mask < 8, bchFormat (Config.eclBits <<< 3 ||| mask) =
    BitVec.ofNat 15 (formatValues.getD mask 0) ∧ formatValues.getD mask 0 < 2 ^ 15 := by decide

/-- The format value of a MASK that has a formula (R105, R121). -/
theorem bchFormat_of_mask_le {mask : Byte} (h : mask.toNat ≤ 7) :
    bchFormat (formatDescriptor mask) = BitVec.ofNat 15 (formatValues.getD mask.toNat 0) :=
  (bchFormat_formatDescriptor mask.toNat (Nat.lt_succ_of_le h)).1

theorem toNat_bchFormat_of_mask_le {mask : Byte} (h : mask.toNat ≤ 7) :
    (bchFormat (formatDescriptor mask)).toNat = formatValues.getD mask.toNat 0 := by
  rw [bchFormat_of_mask_le h, BitVec.toNat_ofNat]
  exact Nat.mod_eq_of_lt (bchFormat_formatDescriptor mask.toNat (Nat.lt_succ_of_le h)).2

theorem exec_placeFormat (s : State) : exec .placeFormat s = .next
    (if s.symerr ≠ 0 then answered s 0x06 0
     else if s.flags.fmtp = true then answered { s with symerr := 0x03 } 0x03 0
     else if s.mask.toNat > 7 then answered { s with symerr := 0x04 } 0x04 0
     else answered
      { s with
        m := overlay s.m inFormat (formatColour (formatValues.getD s.mask.toNat 0))
        fmt := BitVec.ofNat 15 (formatValues.getD s.mask.toNat 0)
        flags := { s.flags with fmtp := true } }
      0x00 (BitVec.ofNat 24 (formatValues.getD s.mask.toNat 0))) := by
  simp only [exec, execPlaceFormat, placeCells_formatWrites]
  refine construct_answers s.flags.fmtp fun _ _ => ?_
  split
  case isTrue h =>
    have hmask : s.mask.toNat ≤ 7 := of_decide_eq_true h
    rw [if_neg (Nat.not_lt.mpr hmask), respond_formatPlaced, toNat_bchFormat_of_mask_le hmask,
      bchFormat_of_mask_le hmask]
    rfl
  case isFalse h =>
    have hmask : s.mask.toNat > 7 := Nat.not_le.mp (mt decide_eq_true h)
    rw [if_pos hmask]
    exact respond_eq_answered .invalidMaskPattern 0 _

theorem decode_placeFormat_word (v : Operand) : decode (0x24#8 ++ v) = formatN (0x24#8 ++ v) .placeFormat := by
  simp [decode]

/-- Settles O33: the writes are the cells of FORMAT, coloured by the format value of MASK; the words have format N. -/
theorem placeFormatCommand : Obligations.PlaceFormatCommand :=
  ⟨exec_placeFormat, encodedN_of_decode decode_placeFormat_word⟩

/-! ### MOD_READ -/

theorem cellInRange_eq_false_iff (row col : Byte) :
    cellInRange row col = false ↔ row.toNat > 24 ∨ col.toNat > 24 := by
  rw [cellInRange, decide_eq_false_iff_not, not_and_or, Nat.not_le, Nat.not_le]

theorem exec_modRead (row col : Byte) (s : State) : exec (.modRead row col) s = .next
    (if row.toNat > 24 ∨ col.toNat > 24 then answered s 0x02 0
     else if s.symerr ≠ 0 then answered s 0x06 0
     else answered s 0x00 (zext (cellCode (readCell s.m row.toNat col.toNat)))) := by
  simp only [exec, execModRead, cellInRange_eq_false_iff]
  split
  case isTrue => exact respond_eq_answered .badOperand 0 s
  case isFalse =>
    split
    case isTrue => exact respond_eq_answered .symbolInvalid 0 s
    case isFalse => exact respond_eq_answered .ok _ s

theorem decode_modRead_word (v : Operand) : decode (0x25#8 ++ v) = formatTwo (0x25#8 ++ v) .modRead := by
  simp [decode]

/-- Settles O34: the range is checked before SYMERR, then the code of the cell answers; the words are of format RC. -/
theorem modReadCommand : Obligations.ModReadCommand := by
  refine ⟨fun row col s => ?_, encodedTwo_of_decode decode_modRead_word⟩
  rw [exec_modRead]
  cases readCell s.m row.toNat col.toNat <;> rfl

end Sys2Proof.Proofs
end

section
/-! PROOFS. The zig-zag traversal and MAP_DATA's loop (R123 to R126): the mask formulas as divisibility conditions, the
visiting order and that it visits no cell twice, hence which bit the loop gives each cell. -/

namespace Sys2Proof.Proofs

open Sys2Proof.Machine Sys2Proof.Spec

/-! ### The mask formulas (R123) -/

theorem beq_mod_zero_eq_decide_dvd (d n : Nat) : (n % d == 0) = decide (d ∣ n) := by
  rw [Bool.eq_iff_iff, beq_iff_eq, decide_eq_true_iff, Nat.dvd_iff_mod_eq_zero]

/-- Both remainders of formula 5 are 0 exactly when 2 and 3 divide the product. -/
theorem mod_two_add_mod_three_beq_zero (n : Nat) : (n % 2 + n % 3 == 0) = decide (6 ∣ n) := by
  rw [Bool.eq_iff_iff, beq_iff_eq, decide_eq_true_iff]
  omega

/-- The two forms of the formulas agree, above 7 too, where neither holds. -/
theorem maskFn_eq_maskHolds : ∀ id row col : Nat, maskFn id row col = maskHolds id row col
  | 0, _, _ => beq_mod_zero_eq_decide_dvd 2 _
  | 1, _, _ => beq_mod_zero_eq_decide_dvd 2 _
  | 2, _, _ => beq_mod_zero_eq_decide_dvd 3 _
  | 3, _, _ => beq_mod_zero_eq_decide_dvd 3 _
  | 4, _, _ => beq_mod_zero_eq_decide_dvd 2 _
  | 5, _, _ => mod_two_add_mod_three_beq_zero _
  | 6, _, _ => beq_mod_zero_eq_decide_dvd 2 _
  | 7, _, _ => beq_mod_zero_eq_decide_dvd 2 _
  | _ + 8, _, _ => rfl

/-! ### The visiting order (R125) -/

theorem columnPairs_eq_mapPairs : columnPairs Config.size (Config.size - 1) true = mapPairs := by decide

theorem passRows_eq_map (upward : Bool) :
    passRows upward = (List.range 25).map fun k => if upward then 24 - k else k := by
  cases upward <;> decide

theorem pairCells_eq_flatMap (p : Nat × Bool) : pairCells p = (List.range 25).flatMap fun k =>
    [(if p.2 then 24 - k else k, p.1), (if p.2 then 24 - k else k, p.1 - 1)] := by
  rw [pairCells, passRows_eq_map, List.flatMap_map]

theorem visitOrder_eq_mapVisit : visitOrder = mapVisit := by
  rw [visitOrder, columnPairs_eq_mapPairs, funext pairCells_eq_flatMap, mapVisit]

theorem yielded_eq_mapOrder (m : Grid) : yielded m = mapOrder m := by
  rw [yielded, visitOrder_eq_mapVisit, mapOrder]

/-! ### No cell is visited twice (R126) -/

theorem nodup_passRows (upward : Bool) : (passRows upward).Nodup := by
  cases upward <;> decide

theorem mem_pairCells_iff (p : Nat × Bool) (r c : Nat) :
    (r, c) ∈ pairCells p ↔ r ∈ passRows p.2 ∧ (c = p.1 ∨ c = p.1 - 1) := by
  simp only [pairCells, List.mem_flatMap, List.mem_cons, List.not_mem_nil, or_false, Prod.mk.injEq, ← and_or_left]
  exact ⟨fun ⟨_, hrow, hr, hc⟩ => ⟨hr ▸ hrow, hc⟩, fun ⟨hrow, hc⟩ => ⟨r, hrow, rfl, hc⟩⟩

/-- One pass meets every row once, and the two columns of a pair differ. -/
theorem nodup_pairCells {p : Nat × Bool} (h : 0 < p.1) : (pairCells p).Nodup := by
  refine List.nodup_flatMap.mpr ⟨fun r _ => ?_, (nodup_passRows p.2).imp fun {a b} hab => ?_⟩
  · simp [show p.1 ≠ p.1 - 1 by omega]
  · simp [Function.onFun, List.disjoint_left, hab]

/-- Each pair lies left of the pair before it, so the pairs share no column. -/
theorem mapPairs_leftward : mapPairs.Pairwise fun p q => q.1 < p.1 - 1 := by decide

theorem nodup_visitOrder : visitOrder.Nodup := by
  rw [visitOrder, columnPairs_eq_mapPairs]
  have positive : ∀ p ∈ mapPairs, 0 < p.1 := by decide
  refine List.nodup_flatMap.mpr ⟨fun p hp => nodup_pairCells (positive p hp), ?_⟩
  refine mapPairs_leftward.imp fun {p q} hlt => List.disjoint_left.mpr fun (r, c) hp hq => ?_
  rw [mem_pairCells_iff] at hp hq
  omega

/-! ### What the loop does (R126) -/

/-- The Unset cells of `m` among those still to visit, in visiting order. -/
def unsetCells (m : Grid) (ps : List (Nat × Nat)) : List (Nat × Nat) :=
  ps.filter fun p => decide (readCell m p.1 p.2 = .unset)

theorem unsetCells_visitOrder (m : Grid) : unsetCells m visitOrder = mapOrder m := yielded_eq_mapOrder m

theorem unsetCells_cons_of_unset {m : Grid} {p : Nat × Nat} (h : readCell m p.1 p.2 = .unset)
    (ps : List (Nat × Nat)) : unsetCells m (p :: ps) = p :: unsetCells m ps :=
  List.filter_cons_of_pos (decide_eq_true h)

theorem unsetCells_cons_of_set {m : Grid} {p : Nat × Nat} (h : readCell m p.1 p.2 ≠ .unset)
    (ps : List (Nat × Nat)) : unsetCells m (p :: ps) = unsetCells m ps :=
  List.filter_cons_of_neg (mt of_decide_eq_true h)

/-- A write changes the Unset test of no other cell. -/
theorem unsetCells_writeCell {p : Nat × Nat} {ps : List (Nat × Nat)} (h : p ∉ ps) (m : Grid) (x : CellState) :
    unsetCells (writeCell m p.1 p.2 x) ps = unsetCells m ps := by
  refine List.filter_congr fun q hq => ?_
  have other : ¬(p.1 = q.1 ∧ p.2 = q.2 ∧ p.1 < 25 ∧ p.2 < 25) :=
    fun ⟨hrow, hcol, _⟩ => h (Prod.ext hrow hcol ▸ hq)
  rw [readCell_writeCell, if_neg other]

theorem mapLoop_cons_of_unset {m : Grid} {p : Nat × Nat} (h : readCell m p.1 p.2 = .unset) (bit : Nat → Bool)
    (mask : Nat) (ps : List (Nat × Nat)) (k : Nat) : mapLoop bit mask (p :: ps) m k =
      mapLoop bit mask ps (writeCell m p.1 p.2 (cellOf (bit k ^^ maskFn mask p.1 p.2))) (k + 1) := if_pos h

theorem mapLoop_cons_of_set {m : Grid} {p : Nat × Nat} (h : readCell m p.1 p.2 ≠ .unset) (bit : Nat → Bool)
    (mask : Nat) (ps : List (Nat × Nat)) (k : Nat) :
    mapLoop bit mask (p :: ps) m k = mapLoop bit mask ps m k := if_neg h

/-- The loop counts the Unset cells it visits. -/
theorem mapLoop_count (bit : Nat → Bool) (mask : Nat) (ps : List (Nat × Nat)) : ps.Nodup → ∀ (m : Grid) (k : Nat),
    (mapLoop bit mask ps m k).2 = k + (unsetCells m ps).length := by
  induction ps with
  | nil => exact fun _ _ _ => rfl
  | cons p ps ih =>
    intro hnodup m k
    obtain ⟨hp, hps⟩ := List.nodup_cons.mp hnodup
    by_cases h : readCell m p.1 p.2 = .unset
    · rw [mapLoop_cons_of_unset h, ih hps, unsetCells_writeCell hp, unsetCells_cons_of_unset h, List.length_cons]
      omega
    · rw [mapLoop_cons_of_set h, ih hps, unsetCells_cons_of_set h]

/-- With `k` cells yielded before, the i-th Unset cell the loop visits gets bit `k + i` under the mask, and every other
cell stays. -/
theorem readCell_mapLoop (bit : Nat → Bool) (mask : Nat) {r c : Nat} (hr : r < 25) (hc : c < 25)
    (ps : List (Nat × Nat)) : ps.Nodup → ∀ (m : Grid) (k : Nat),
      readCell (mapLoop bit mask ps m k).1 r c =
        if (r, c) ∈ unsetCells m ps then cellOf (bit (k + (unsetCells m ps).idxOf (r, c)) ^^ maskFn mask r c)
        else readCell m r c := by
  induction ps with
  | nil => exact fun _ _ _ => rfl
  | cons p ps ih =>
    intro hnodup m k
    obtain ⟨hp, hps⟩ := List.nodup_cons.mp hnodup
    by_cases h : readCell m p.1 p.2 = .unset
    · rw [mapLoop_cons_of_unset h, ih hps, unsetCells_writeCell hp, unsetCells_cons_of_unset h, readCell_writeCell]
      by_cases here : p = (r, c)
      · subst here
        have written : (r, c) ∉ unsetCells m ps := fun hmem => hp (List.mem_of_mem_filter hmem)
        simp [written, hr, hc]
      · have untouched : ¬(p.1 = r ∧ p.2 = c ∧ p.1 < 25 ∧ p.2 < 25) :=
          fun ⟨hrow, hcol, _⟩ => here (Prod.ext hrow hcol)
        simp only [List.mem_cons, Ne.symm here, false_or, untouched, if_false, List.idxOf_cons_ne _ here,
          Nat.succ_eq_add_one, Nat.add_right_comm k 1, Nat.add_assoc]
    · rw [mapLoop_cons_of_set h, ih hps, unsetCells_cons_of_set h]

end Sys2Proof.Proofs
end

section
/-! PROOFS. The commands of the data mapper: MASK_EVAL (R129) and MAP_DATA (R130). -/

namespace Sys2Proof.Proofs

open Sys2Proof.Machine Sys2Proof.Spec

/-! ### MASK_EVAL -/

theorem exec_maskEval (id row col : Byte) (s : State) : exec (.maskEval id row col) s = .next
    (if id.toNat > 7 then answered s 0x04 0
     else answered s 0x00 (if maskHolds id.toNat row.toNat col.toNat then 1 else 0)) := by
  simp only [exec, execMaskEval, maskFn_eq_maskHolds, maskIdInRange, decide_eq_true_iff]
  split
  case isTrue h =>
    rw [if_neg (Nat.not_lt.mpr h)]
    exact respond_eq_answered .ok _ s
  case isFalse h =>
    rw [if_pos (Nat.not_le.mp h)]
    exact respond_eq_answered .invalidMaskPattern 0 s

/-- The mask id of an MRC operand, as a number (R72). -/
theorem byte2Field_append (opc : Byte) (v : Operand) : byte2Field (opc ++ v) = BitVec.ofNat 8 (v.toNat / 65536) := by
  rw [byte2Field, BitVec.extractLsb'_append_eq_of_add_le (by decide), BitVec.extractLsb',
    Nat.shiftRight_eq_div_pow]

/-- Every word under the opcode of MASK_EVAL is legal (R72, R129). -/
theorem decode_maskEval_word (v : Operand) : decode (0x28#8 ++ v) = .ok (.maskEval
    (BitVec.ofNat 8 (v.toNat / 65536)) (BitVec.ofNat 8 (v.toNat / 256)) (BitVec.ofNat 8 v.toNat)) := by
  rw [← byte2Field_append 0x28, ← byte1Field_append 0x28, ← byte0Field_append 0x28]
  simp [decode, formatMRC]

/-- Settles O37: the model's formulas are the divisibility conditions; the words are of format MRC. -/
theorem maskEvalCommand : Obligations.MaskEvalCommand :=
  ⟨exec_maskEval, fun v => runs_of_decode_ok (decode_maskEval_word v)⟩

/-! ### MAP_DATA's matrix and remainder -/

/-- The stream bit k is bit 7 - k mod 8 of codeword k / 8, and 0 past the stream (R124). -/
theorem streamBit_eq_streamBitIsOne (s : State) (k : Nat) : streamBit s k = streamBitIsOne s k := by
  rw [streamBit, streamBitIsOne, streamBits, Bool.decide_and, BitVec.getLsbD, Nat.testBit_eq_decide_div_mod_eq]
  split
  case isTrue h => rw [decide_eq_true h, Bool.true_and]
  case isFalse h => rw [decide_eq_false h, Bool.false_and]

theorem cellOf_xor_eq_ite (a b : Bool) : cellOf (a ^^ b) = if a = b then .light else .dark := by
  cases a <;> cases b <;> rfl

theorem cellOf_xor_eq_dataColour (s : State) (k r c : Nat) :
    cellOf (streamBit s k ^^ maskFn s.mask.toNat r c) = dataColour s k (r, c) := by
  rw [streamBit_eq_streamBitIsOne, maskFn_eq_maskHolds, cellOf_xor_eq_ite, dataColour]

/-- The matrix MAP_DATA leaves: each Unset cell in the colour of its place in the visiting order (R126). -/
def mappedGrid (s : State) : Grid :=
  tabulate fun r c =>
    if (r, c) ∈ mapOrder s.m then dataColour s ((mapOrder s.m).idxOf (r, c)) (r, c) else readCell s.m r c

theorem mapLoop_visitOrder (s : State) : mapLoop (streamBit s) s.mask.toNat visitOrder s.m 0 =
    (mappedGrid s, (mapOrder s.m).length) := by
  refine Prod.ext (grid_ext fun r hr c hc => ?_) ?_
  · rw [readCell_mapLoop _ _ hr hc _ nodup_visitOrder, unsetCells_visitOrder, Nat.zero_add, cellOf_xor_eq_dataColour,
      mappedGrid, readCell_tabulate _ hr hc]
  · rw [mapLoop_count _ _ _ nodup_visitOrder, unsetCells_visitOrder, Nat.zero_add]

/-! ### MAP_DATA -/

/-- MAP_DATA's guard: the four placements done and MAP clear (R130, R145). -/
theorem readyToMap_iff (f : Flags) : f.readyToMap = true ↔ f = ⟨true, true, true, true, false⟩ := by
  obtain ⟨find, tim, aln, fmtp, map⟩ := f
  simp [Flags.readyToMap, and_assoc]

theorem not_readyToMap_iff (f : Flags) : (!f.readyToMap) = true ↔ f ≠ ⟨true, true, true, true, false⟩ := by
  rw [Bool.not_eq_true', ← Bool.not_eq_true, readyToMap_iff]

/-- What MAP_DATA answers when it completes. -/
theorem respond_mapped (s : State) (m : Grid) (n : Nat) :
    respond .ok (resultOfNat (n - min n (streamBits s))) ((s.setM m).setFlags s.flags.setMap) =
      .next (answered { s with m := m, flags := { s.flags with map := true } } 0x00
        (BitVec.ofNat 24 (n - 8 * (s.dlen.toNat + s.eclen.toNat)))) := by
  rw [← Nat.sub_eq_sub_min]
  rfl

theorem exec_mapData (s : State) : exec .mapData s = .next
    (if s.symerr ≠ 0 then answered s 0x06 0
     else if s.flags ≠ ⟨true, true, true, true, false⟩ then answered { s with symerr := 0x03 } 0x03 0
     else if s.mask.toNat > 7 then answered { s with symerr := 0x04 } 0x04 0
     else answered { s with m := mappedGrid s, flags := { s.flags with map := true } } 0x00
      (BitVec.ofNat 24 ((mapOrder s.m).length - 8 * (s.dlen.toNat + s.eclen.toNat)))) := by
  simp only [exec, execMapData]
  rw [← Bool.not_not s.flags.readyToMap]
  simp only [← not_readyToMap_iff]
  refine construct_answers (!s.flags.readyToMap) fun _ _ => ?_
  rw [mapLoop_visitOrder]
  split
  case isTrue h =>
    have hmask : s.mask.toNat ≤ 7 := of_decide_eq_true h
    rw [if_neg (Nat.not_lt.mpr hmask)]
    exact respond_mapped s _ _
  case isFalse h =>
    have hmask : s.mask.toNat > 7 := Nat.not_le.mp (mt decide_eq_true h)
    rw [if_pos hmask]
    exact respond_eq_answered .invalidMaskPattern 0 _

theorem decode_mapData_word (v : Operand) : decode (0x29#8 ++ v) = formatN (0x29#8 ++ v) .mapData := by
  simp [decode]

/-- Settles O38: the loop colours the Unset cells in visiting order and counts them; the words have format N. -/
theorem mapDataCommand : Obligations.MapDataCommand :=
  ⟨exec_mapData, encodedN_of_decode decode_mapData_word⟩

end Sys2Proof.Proofs
end

section
/-! PROOFS. The control commands: SET_MASK (R131) and REG_READ (R30, R132). -/

namespace Sys2Proof.Proofs

open Sys2Proof.Machine Sys2Proof.Spec

/-! ### SET_MASK -/

/-- SET_MASK's guard is down exactly when no flag is set (R131). -/
theorem any_eq_false_iff (f : Flags) : f.any = false ↔ f = ⟨false, false, false, false, false⟩ := by
  obtain ⟨find, tim, aln, fmtp, map⟩ := f
  simp [Flags.any, and_assoc]

theorem exec_setMask (id : Byte) (s : State) : exec (.setMask id) s = .next
    (if s.flags = ⟨false, false, false, false, false⟩ then answered { s with mask := id } 0x00 0
     else answered s 0x03 0) := by
  simp only [exec, execSetMask, ← any_eq_false_iff]
  cases s.flags.any
  case false => exact respond_eq_answered .ok 0 (s.setMask id)
  case true => exact respond_eq_answered .sequenceError 0 s

theorem decode_setMask_word (v : Operand) : decode (0x30#8 ++ v) = formatB8 (0x30#8 ++ v) .setMask := by
  simp [decode]

/-- Settles O42: the guard is down exactly when no flag is set; the words are of format B8. -/
theorem setMaskCommand : Obligations.SetMaskCommand :=
  ⟨exec_setMask, encodedB8_of_decode decode_setMask_word⟩

/-! ### REG_READ -/

/-- A register of flag bits is their weighted sum: the bits do not overlap (R29, R30). -/
theorem flagBits_eq_sum (find tim aln fmtp map valid : Bool) :
    bitAt find 0 ||| bitAt tim 1 ||| bitAt aln 2 ||| bitAt fmtp 3 ||| bitAt map 4 ||| bitAt valid 5 =
      BitVec.ofNat 24 (find.toNat + 2 * tim.toNat + 4 * aln.toNat + 8 * fmtp.toNat + 16 * map.toNat +
        (if valid = true then 32 else 0)) := by
  revert find tim aln fmtp map valid
  decide

theorem validBit_iff (f : Flags) (symerr : Byte) : validBit f symerr = true ↔ f.map = true ∧ symerr = 0 := by
  rw [validBit, Bool.and_eq_true, beq_iff_eq]

/-- Selector k reads the k-th register of R33. -/
theorem registerValue_eq_getD (s : State) : ∀ k ≤ 0x0B,
    registerValue s (BitVec.ofNat 8 k) = BitVec.ofNat 24 ((registers s).getD k 0)
  | 0, _ => by
    simp only [registers, ← validBit_iff]
    exact flagBits_eq_sum ..
  | 1, _ => zext_eq_ofNat s.mask
  | 2, _ => zext_eq_ofNat s.dlen
  | 3, _ => zext_eq_ofNat s.eclen
  | 4, _ => zext_eq_ofNat s.fmt
  | 5, _ => zext_eq_ofNat s.symerr
  | 6, _ | 7, _ | 8, _ | 9, _ | 10, _ | 11, _ => rfl
  | k + 12, h => absurd h (by omega)

theorem exec_regRead_of_le {sel : Byte} (h : sel.toNat ≤ 0x0B) (s : State) :
    exec (.regRead sel) s = .next (answered s 0x00 (BitVec.ofNat 24 ((registers s).getD sel.toNat 0))) := by
  rw [← registerValue_eq_getD s sel.toNat h, BitVec.ofNat_toNat, BitVec.setWidth_eq]
  exact if_pos (decide_eq_true h)

theorem exec_regRead_of_gt {sel : Byte} (h : ¬sel.toNat ≤ 0x0B) (s : State) :
    exec (.regRead sel) s = .next (answered s 0x02 0) :=
  if_neg (mt of_decide_eq_true h)

theorem decode_regRead_word (v : Operand) : decode (0x31#8 ++ v) = formatB8 (0x31#8 ++ v) .regRead := by
  simp [decode]

/-- Settles O43: the selector is at most 0x0B or it is not; the words are of format B8. -/
theorem regReadCommand : Obligations.RegReadCommand := by
  refine ⟨fun sel s => ?_, encodedB8_of_decode decode_regRead_word⟩
  split
  case isTrue h => exact exec_regRead_of_le h s
  case isFalse h => exact exec_regRead_of_gt h s

end Sys2Proof.Proofs
end

section
/-! PROOFS. The three ways a command ends (R146, R148, R149): it completes, it raises, or, as a construction command, it
fails; and which errors store their status in SYMERR. -/

namespace Sys2Proof.Proofs

open Sys2Proof.Machine Sys2Proof.Spec

/-! ### How a command ends -/

/-- The ends of command `i` in state `s`. A construction command raises SYMBOL_INVALID only, and is the only one that
fails (R146, R147). -/
inductive EndsPrecisely (i : Instr) (s : State) : Host.Outcome State Fault Refusal → Prop where
  | completed (v : Operand) (t : State) : EndsPrecisely i s (respond .ok v t)
  | raised {st : Status} (h : isConstruction i = false ∨ st = .symbolInvalid) : EndsPrecisely i s (raise st s)
  | failed {st : Status} (hi : isConstruction i = true) (h : st = .sequenceError ∨ st = .invalidMaskPattern) :
    EndsPrecisely i s (fail st s)

/-- A check decides between two ends. -/
theorem EndsPrecisely.ite {i : Instr} {s : State} {a b : Host.Outcome State Fault Refusal} {p : Prop} [Decidable p]
    (ha : EndsPrecisely i s a) (hb : EndsPrecisely i s b) : EndsPrecisely i s (if p then a else b) :=
  iteInduction (fun _ => ha) (fun _ => hb)

/-- The head of the construction commands adds an error that raises and one that fails (R145, R147). -/
theorem EndsPrecisely.construct {i : Instr} {s : State} {g : Bool} {body : State → Host.Outcome State Fault Refusal}
    (hi : isConstruction i = true) (hbody : EndsPrecisely i s (body s)) : EndsPrecisely i s (construct g body s) := by
  rcases construct_cases g body s with ⟨-, h⟩ | ⟨-, -, h⟩ | ⟨-, -, h⟩ <;> rw [h]
  · exact .raised (.inr rfl)
  · exact .failed hi (.inl rfl)
  · exact hbody

/-- Every command, by its checks in their order (R143, R148). -/
theorem exec_endsPrecisely (i : Instr) (s : State) : EndsPrecisely i s (exec i s) := by
  cases i with simp only [exec]
  | gfExp | bchFmt | rsEncode | matrixClear => exact .completed _ _
  | gfLog | setMask => exact .ite (.raised (.inl rfl)) (.completed _ _)
  | cwWrite | cwRead | setDlen | genRead | maskEval | regRead => exact .ite (.completed _ _) (.raised (.inl rfl))
  | modRead => exact .ite (.raised (.inl rfl)) (.ite (.raised (.inl rfl)) (.completed _ _))
  | placeFinders | placeTiming | placeAlign => exact .construct rfl (.completed _ _)
  | placeFormat | mapData => exact .construct rfl (.ite (.completed _ _) (.failed rfl (.inr rfl)))

/-! ### Which errors store their status -/

/-- R146's condition does not hold of an error that raises. -/
theorem not_storesStatus_of_raised {i : Instr} {st : Status} (h : isConstruction i = false ∨ st = .symbolInvalid) :
    ¬(isConstruction i = true ∧ (st.code = 3 ∨ st.code = 4)) := by
  rintro ⟨hi, hst⟩
  rcases h with h | rfl
  · exact Bool.false_ne_true (h.symm.trans hi)
  · exact absurd hst (by decide)

/-- R146's condition holds of an error of a construction command that fails. -/
theorem storesStatus_of_failed {i : Instr} {st : Status} (hi : isConstruction i = true)
    (h : st = .sequenceError ∨ st = .invalidMaskPattern) :
    isConstruction i = true ∧ (st.code = 3 ∨ st.code = 4) :=
  ⟨hi, h.imp (congrArg Status.code) (congrArg Status.code)⟩

/-- Settles O44: of the ends of a command, one that completes has status OK, one that raises keeps the state, SYMERR
included, and one that fails stores its status in SYMERR. -/
theorem errorsArePrecise : Obligations.ErrorsArePrecise := by
  intro i s
  have ends := exec_endsPrecisely i s
  generalize exec i s = o at ends ⊢
  cases ends with
  | completed v t => exact ⟨_, 0, v, rfl, rfl, fun h => absurd rfl h⟩
  | @raised st h =>
    refine ⟨_, st.code, 0, rfl, rfl, fun _ => ⟨rfl, ?_⟩⟩
    rw [if_neg (not_storesStatus_of_raised h)]
    rfl
  | @failed st hi h =>
    refine ⟨_, st.code, 0, rfl, rfl, fun _ => ⟨rfl, ?_⟩⟩
    rw [if_pos (storesStatus_of_failed hi h)]
    rfl

end Sys2Proof.Proofs
end

section
/-! PROOFS. The decoder and the encoder are inverse to each other (R69, R73): each format reads back the operands of the
word its commands have, and GF_EXP's integer is in the range of its field. -/

namespace Sys2Proof.Proofs

open Sys2Proof.Machine Sys2Proof.Spec

/-! ### The operand areas as numbers -/

theorem toNat_zero_append {m n : Nat} (b : BitVec n) : (0#m ++ b).toNat = b.toNat := by simp

theorem toNat_append_byte {n : Nat} (a : BitVec n) (b : Byte) : (a ++ b).toNat = a.toNat * 256 + b.toNat := by
  rw [BitVec.toNat_append, ← Nat.shiftLeft_add_eq_or_of_lt b.isLt, Nat.shiftLeft_eq]

/-- A byte is read back from any number that is it modulo 256. -/
theorem ofNat_eq_byte {n : Nat} {b : Byte} (h : n % 256 = b.toNat) : BitVec.ofNat 8 n = b :=
  BitVec.eq_of_toNat_eq ((BitVec.toNat_ofNat n 8).trans h)

/-! ### Each format reads its commands' operands back -/

theorem formatN_encoded (opc : Byte) (i : Instr) : formatN (opc ++ (0 : Operand)) i = .ok i := by
  rw [formatN_append, if_pos rfl]

theorem formatB8_encoded (opc b : Byte) (mk : Byte → Instr) :
    formatB8 (opc ++ (0#16 ++ b : Operand)) mk = .ok (mk b) := by
  rw [formatB8_append, toNat_zero_append, if_pos b.isLt, ofNat_eq_byte (Nat.mod_eq_of_lt b.isLt)]

theorem formatD5_encoded (opc : Byte) (d : BitVec 5) (mk : BitVec 5 → Instr) :
    formatD5 (opc ++ (0#19 ++ d : Operand)) mk = .ok (mk d) := by
  rw [formatD5_append, toNat_zero_append, if_pos d.isLt, BitVec.ofNat_toNat, BitVec.setWidth_eq]

theorem formatTwo_encoded (opc a b : Byte) (mk : Byte → Byte → Instr) :
    formatTwo (opc ++ (0#8 ++ a ++ b : Operand)) mk = .ok (mk a b) := by
  have hv : (0#8 ++ a ++ b : Operand).toNat = a.toNat * 256 + b.toNat := by
    rw [toNat_append_byte, toNat_zero_append]
  rw [formatTwo_append, hv, if_pos (by omega), ofNat_eq_byte (b := a) (by omega), ofNat_eq_byte (b := b) (by omega)]

theorem decode_maskEval_encoded (id row col : Byte) :
    decode (0x28#8 ++ (id ++ row ++ col : Operand)) = .ok (.maskEval id row col) := by
  have hv : (id ++ row ++ col : Operand).toNat = (id.toNat * 256 + row.toNat) * 256 + col.toNat := by
    rw [toNat_append_byte, toNat_append_byte]
  rw [decode_maskEval_word, hv, ofNat_eq_byte (b := id) (by omega), ofNat_eq_byte (b := row) (by omega),
    ofNat_eq_byte (b := col) (by omega)]

/-! ### GF_EXP's integer -/

theorem imm24InRange_iff (n : Int) : imm24InRange n = true ↔ -8388608 ≤ n ∧ n ≤ 8388607 := decide_eq_true_iff

/-- An integer of the field's range is the two's complement value of its 24 bits (R69). -/
theorem toInt_ofInt_of_inRange {n : Int} (h : imm24InRange n = true) : (BitVec.ofInt 24 n).toInt = n := by
  obtain ⟨hlow, hhigh⟩ := (imm24InRange_iff n).mp h
  exact BitVec.toInt_ofInt_eq_self (by decide) hlow (Int.lt_add_one_iff.mpr hhigh)

theorem imm24InRange_toInt (v : Operand) : imm24InRange v.toInt = true := by
  rw [imm24InRange_iff, operand_toInt]
  split <;> omega

/-! ### Decoding and encoding -/

/-- Settles O1: under each opcode the format reads the operands back; only GF_EXP's integer needs its range for that. -/
theorem encodeThenDecode : Obligations.EncodeThenDecode := by
  intro i hi
  cases i with
  | gfExp n =>
    have value := toInt_ofInt_of_inRange hi
    exact (decode_gfExp_word _).trans (congrArg (fun n => Except.ok (Instr.gfExp n)) value)
  | gfLog v => exact (decode_gfLog_word _).trans (formatB8_encoded _ v _)
  | bchFmt d => exact (decode_bchFmt_word _).trans (formatD5_encoded _ d _)
  | cwWrite idx val => exact (decode_cwWrite_word _).trans (formatTwo_encoded _ idx val _)
  | cwRead idx => exact (decode_cwRead_word _).trans (formatB8_encoded _ idx _)
  | setDlen n => exact (decode_setDlen_word _).trans (formatB8_encoded _ n _)
  | genRead j => exact (decode_genRead_word _).trans (formatB8_encoded _ j _)
  | rsEncode => exact (decode_rsEncode_word _).trans (formatN_encoded _ _)
  | matrixClear => exact (decode_matrixClear_word _).trans (formatN_encoded _ _)
  | placeFinders => exact (decode_placeFinders_word _).trans (formatN_encoded _ _)
  | placeTiming => exact (decode_placeTiming_word _).trans (formatN_encoded _ _)
  | placeAlign => exact (decode_placeAlign_word _).trans (formatN_encoded _ _)
  | placeFormat => exact (decode_placeFormat_word _).trans (formatN_encoded _ _)
  | modRead row col => exact (decode_modRead_word _).trans (formatTwo_encoded _ row col _)
  | maskEval id row col => exact decode_maskEval_encoded id row col
  | mapData => exact (decode_mapData_word _).trans (formatN_encoded _ _)
  | setMask id => exact (decode_setMask_word _).trans (formatB8_encoded _ id _)
  | regRead sel => exact (decode_regRead_word _).trans (formatB8_encoded _ sel _)

/-- A decoded command fits its format: GF_EXP's integer is the value of 24 bits (R69). -/
theorem wellFormed_of_decode_ok {w : Word} {i : Instr} (h : decode w = .ok i) : i.wellFormed = true := by
  cases i with
  | gfExp n =>
    have value : decode w = .ok (.gfExp (BitVec.ofInt 24 n).toInt) := by
      rw [← encode_of_decode_ok h]
      exact decode_gfExp_word _
    have hn := Instr.gfExp.inj (Except.ok.inj (value.symm.trans h))
    exact (congrArg imm24InRange hn).symm.trans (imm24InRange_toInt _)
  | _ => rfl

/-- Settles O2: a word that decodes is the word of its command, which fits its format. -/
theorem decodedWordReencodes : Obligations.DecodedWordReencodes :=
  fun _ _ h => ⟨wellFormed_of_decode_ok h, encode_of_decode_ok h⟩

/-- Settles O5: the example words carry the opcodes of their commands over the operands of their formats. -/
theorem exampleWordsDecode : Obligations.ExampleWordsDecode := by
  unfold Obligations.ExampleWordsDecode
  decide

end Sys2Proof.Proofs
end

section
/-! PROOFS. The four placements as one (R116, R118 to R121): each lays its pattern over its own structural set, sets
its own flag, and PLACE_FORMAT also writes FMT. The sets are disjoint, so two placements commute (R165). -/

namespace Sys2Proof.Proofs

open Sys2Proof.Machine Sys2Proof.Spec

/-! ### The structural sets (R116) -/

/-- Settles O35: both facts are of the finitely many cells of the matrix. -/
theorem structuralSetsAreDisjoint : Obligations.StructuralSetsAreDisjoint := by
  unfold Obligations.StructuralSetsAreDisjoint
  decide +kernel

/-! ### A response leaves the registers -/

@[simp] theorem answered_m (s : State) (st : Byte) (v : Operand) : (answered s st v).m = s.m := rfl
@[simp] theorem answered_fmt (s : State) (st : Byte) (v : Operand) : (answered s st v).fmt = s.fmt := rfl
@[simp] theorem answered_mask (s : State) (st : Byte) (v : Operand) : (answered s st v).mask = s.mask := rfl
@[simp] theorem answered_flags (s : State) (st : Byte) (v : Operand) : (answered s st v).flags = s.flags := rfl
@[simp] theorem answered_symerr (s : State) (st : Byte) (v : Operand) : (answered s st v).symerr = s.symerr := rfl
@[simp] theorem answered_answered (s : State) (st st' : Byte) (v v' : Operand) :
    answered (answered s st v) st' v' = answered s st' v' := rfl
theorem answered_forget_response (s : State) (st : Byte) (v : Operand) :
    { answered s st v with response := none } = { s with response := none } := rfl

/-! ### The placements -/

/-- The four placements (R145). -/
inductive Placement where
  | finders
  | timing
  | align
  | format
  deriving DecidableEq

/-- The state with its matrix, FMT and FLAGS replaced: what a construction command that succeeds writes. -/
def withSymbol (s : State) (m : Grid) (fmt : BitVec 15) (f : Flags) : State :=
  { s with m := m, fmt := fmt, flags := f }

section
variable (s : State) (m : Grid) (fmt : BitVec 15) (f : Flags)

@[simp] theorem withSymbol_m : (withSymbol s m fmt f).m = m := rfl
@[simp] theorem withSymbol_mask : (withSymbol s m fmt f).mask = s.mask := rfl
@[simp] theorem withSymbol_fmt : (withSymbol s m fmt f).fmt = fmt := rfl
@[simp] theorem withSymbol_flags : (withSymbol s m fmt f).flags = f := rfl
@[simp] theorem withSymbol_symerr : (withSymbol s m fmt f).symerr = s.symerr := rfl
@[simp] theorem withSymbol_withSymbol (m' : Grid) (fmt' : BitVec 15) (f' : Flags) :
    withSymbol (withSymbol s m fmt f) m' fmt' f' = withSymbol s m' fmt' f' := rfl
@[simp] theorem withSymbol_answered (st : Byte) (v : Operand) :
    withSymbol (answered s st v) m fmt f = answered (withSymbol s m fmt f) st v := rfl

end

namespace Placement

/-- The command of a placement. -/
def instr : Placement → Instr
  | finders => .placeFinders
  | timing => .placeTiming
  | align => .placeAlign
  | format => .placeFormat

/-- The structural set of a placement (R116). -/
def cells : Placement → Nat → Nat → Bool
  | finders => inFinder
  | timing => inTiming
  | align => inAlign
  | format => inFormat

/-- The pattern of a placement under a mask, which only the format pattern depends on (R110 to R115). -/
def colour (mask : Byte) : Placement → Nat → Nat → CellState
  | finders => finderColour
  | timing => timingColour
  | align => alignColour
  | format => formatColour (formatValues.getD mask.toNat 0)

/-- A placement's own flag (R29). -/
def flag : Placement → Flags → Bool
  | finders => Flags.find
  | timing => Flags.tim
  | align => Flags.aln
  | format => Flags.fmtp

/-- The flags with a placement's own flag set. -/
def setFlag : Placement → Flags → Flags
  | finders => Flags.setFind
  | timing => Flags.setTim
  | align => Flags.setAln
  | format => Flags.setFmtp

/-- FMT after a placement (R28, R121). -/
def fmtAfter (mask : Byte) (old : BitVec 15) : Placement → BitVec 15
  | finders => old
  | timing => old
  | align => old
  | format => BitVec.ofNat 15 (formatValues.getD mask.toNat 0)

/-- The RESULT of a placement that succeeds. -/
def result (mask : Byte) : Placement → Operand
  | finders => 0
  | timing => 0
  | align => 0
  | format => BitVec.ofNat 24 (formatValues.getD mask.toNat 0)

/-- The state a placement that succeeds leaves, but for the response. -/
def place (p : Placement) (s : State) : State :=
  withSymbol s (overlay s.m p.cells (p.colour s.mask)) (p.fmtAfter s.mask s.fmt) (p.setFlag s.flags)

@[simp] theorem place_mask (p : Placement) (s : State) : (p.place s).mask = s.mask := by simp [place]
@[simp] theorem place_symerr (p : Placement) (s : State) : (p.place s).symerr = s.symerr := by simp [place]
@[simp] theorem place_flags (p : Placement) (s : State) : (p.place s).flags = p.setFlag s.flags := by simp [place]
@[simp] theorem place_answered (p : Placement) (s : State) (st : Byte) (v : Operand) :
    p.place (answered s st v) = answered (p.place s) st v := by
  simp [place]

/-- The mask is one the placement accepts: PLACE_FORMAT needs a formula (R121). -/
def MaskFits (p : Placement) (mask : Byte) : Prop := p = format → mask.toNat ≤ 7

/-- What a placement answers, by the order of its checks (R148). -/
theorem exec_instr (p : Placement) (s : State) : exec p.instr s = .next
    (if s.symerr ≠ 0 then answered s 0x06 0
     else if p.flag s.flags = true then answered { s with symerr := 0x03 } 0x03 0
     else if p = format ∧ s.mask.toNat > 7 then answered { s with symerr := 0x04 } 0x04 0
     else answered (p.place s) 0x00 (p.result s.mask)) := by
  cases p with
  | finders =>
    rw [if_neg (c := _ ∧ _) (fun h => Placement.noConfusion h.1)]
    exact exec_placeFinders s
  | timing =>
    rw [if_neg (c := _ ∧ _) (fun h => Placement.noConfusion h.1)]
    exact exec_placeTiming s
  | align =>
    rw [if_neg (c := _ ∧ _) (fun h => Placement.noConfusion h.1)]
    exact exec_placeAlign s
  | format =>
    simp only [true_and]
    exact exec_placeFormat s

/-- A placement whose checks hold succeeds. -/
theorem exec_instr_of_checks {p : Placement} {s : State} (hsym : s.symerr = 0) (hflag : p.flag s.flags = false)
    (hmask : p.MaskFits s.mask) : exec p.instr s = .next (answered (p.place s) 0x00 (p.result s.mask)) := by
  rw [exec_instr, if_neg (not_not.mpr hsym), hflag, if_neg Bool.false_ne_true,
    if_neg (fun h => Nat.not_lt.mpr (hmask h.1) h.2)]

/-- A pattern holds no Unset cell. -/
theorem colour_ne_unset (p : Placement) (mask : Byte) (r c : Nat) : p.colour mask r c ≠ .unset := by
  have choice : ∀ (b : Prop) [Decidable b] {x y : CellState}, x ≠ .unset → y ≠ .unset →
      (if b then x else y) ≠ .unset :=
    fun _ _ _ _ hx hy => iteInduction (motive := (· ≠ CellState.unset)) (fun _ => hx) (fun _ => hy)
  cases p with
  | finders => exact choice _ (by decide) (by decide)
  | timing => exact choice _ (by decide) (by decide)
  | align => exact choice _ (by decide) (by decide)
  | format => exact choice _ (by decide) (choice _ (by decide) (by decide))

/-! ### The structural sets are disjoint (R116) -/

theorem toNat_cells_add_le {p q : Placement} (h : p ≠ q) (r c : Nat) :
    (p.cells r c).toNat + (q.cells r c).toNat ≤
      (inFinder r c).toNat + (inTiming r c).toNat + (inAlign r c).toNat + (inFormat r c).toNat := by
  cases p <;> cases q <;> simp only [cells, ne_eq, not_true_eq_false] at h ⊢ <;> omega

theorem cells_disjoint {p q : Placement} (h : p ≠ q) {r c : Nat} (hr : r < 25) (hc : c < 25)
    (hp : p.cells r c = true) : q.cells r c = false := by
  have one := (toNat_cells_add_le h r c).trans (structuralSetsAreDisjoint.1 r hr c hc)
  rw [hp] at one
  exact Bool.toNat_eq_zero.mp (by simpa using one)

/-- Patterns on disjoint sets can be laid in either order. -/
theorem overlay_comm {a b : Nat → Nat → Bool} (h : ∀ r < 25, ∀ c < 25, a r c = true → b r c = false) (m : Grid)
    (x y : Nat → Nat → CellState) : overlay (overlay m a x) b y = overlay (overlay m b y) a x := by
  refine grid_ext fun r hr c hc => ?_
  simp only [readCell_overlay _ _ _ hr hc]
  cases ha : a r c with
  | true => simp [h r hr c hc ha]
  | false => simp

/-! ### Two placements commute (R165) -/

theorem setFlag_comm (p q : Placement) (f : Flags) : q.setFlag (p.setFlag f) = p.setFlag (q.setFlag f) := by
  cases p <;> cases q <;> rfl

theorem fmtAfter_comm (p q : Placement) (mask : Byte) (old : BitVec 15) :
    q.fmtAfter mask (p.fmtAfter mask old) = p.fmtAfter mask (q.fmtAfter mask old) := by
  cases p <;> cases q <;> rfl

/-- A placement touches no other placement's flag. -/
theorem flag_setFlag_of_ne {p q : Placement} (h : p ≠ q) (f : Flags) : q.flag (p.setFlag f) = q.flag f := by
  cases p <;> cases q <;> simp [flag, setFlag] at h ⊢

theorem place_comm {p q : Placement} (h : p ≠ q) (s : State) : q.place (p.place s) = p.place (q.place s) := by
  simp only [place, withSymbol_withSymbol, withSymbol_m, withSymbol_mask, withSymbol_fmt, withSymbol_flags,
    overlay_comm (fun _ hr _ hc => cells_disjoint h hr hc), setFlag_comm p q, fmtAfter_comm p q]

theorem exists_of_mem {i : Instr} (h : i ∈ placements) : ∃ p : Placement, i = p.instr := by
  simp only [placements, List.mem_cons, List.not_mem_nil, or_false] at h
  rcases h with rfl | rfl | rfl | rfl
  · exact ⟨finders, rfl⟩
  · exact ⟨timing, rfl⟩
  · exact ⟨align, rfl⟩
  · exact ⟨format, rfl⟩

theorem flag_of_ownFlagClear {p : Placement} {f : Flags} (h : OwnFlagClear p.instr f) : p.flag f = false := by
  obtain ⟨hfind, htim, haln, hfmtp⟩ := h
  cases p with
  | finders => exact hfind rfl
  | timing => exact htim rfl
  | align => exact haln rfl
  | format => exact hfmtp rfl

/-- Two different placements whose checks hold succeed one after the other. -/
theorem exec_instr_twice {p q : Placement} (hpq : p ≠ q) {s : State} (hsym : s.symerr = 0)
    (hp : p.flag s.flags = false) (hq : q.flag s.flags = false) (hpm : p.MaskFits s.mask) (hqm : q.MaskFits s.mask) :
    ∃ s1, exec p.instr s = .next s1 ∧
      exec q.instr s1 = .next (answered (q.place (p.place s)) 0x00 (q.result s.mask)) := by
  refine ⟨_, exec_instr_of_checks hsym hp hpm, ?_⟩
  rw [exec_instr_of_checks (p := q) (by simpa using hsym) (by simpa [flag_setFlag_of_ne hpq] using hq)
    (by simpa using hqm)]
  simp

end Placement

/-- Settles O36: the second placement finds its own flag and the mask as they were, and the two patterns, the flags and
FMT come out the same in either order. -/
theorem placementOrderDoesNotMatter : Obligations.PlacementOrderDoesNotMatter := by
  intro a ha b hb hab s hsym hfa hfb hmask
  obtain ⟨p, rfl⟩ := Placement.exists_of_mem ha
  obtain ⟨q, rfl⟩ := Placement.exists_of_mem hb
  have hpq : p ≠ q := fun h => hab (congrArg Placement.instr h)
  have hp := Placement.flag_of_ownFlagClear hfa
  have hq := Placement.flag_of_ownFlagClear hfb
  have hpm : p.MaskFits s.mask := fun h => hmask (.inl (h ▸ rfl))
  have hqm : q.MaskFits s.mask := fun h => hmask (.inr (h ▸ rfl))
  obtain ⟨s1, first, second⟩ := Placement.exec_instr_twice hpq hsym hp hq hpm hqm
  obtain ⟨t1, first', second'⟩ := Placement.exec_instr_twice hpq.symm hsym hq hp hqm hpm
  refine ⟨s1, _, t1, _, first, second, first', second', by simpa using hsym, ?_⟩
  rw [answered_forget_response, answered_forget_response, Placement.place_comm hpq]

end Sys2Proof.Proofs
end

section
/-! PROOFS. What a command can do, said once: its effect on the state. That every command completes (R151), and what no
command changes (R51, R131, R146), follow by the cases of the effect. -/

namespace Sys2Proof.Proofs

open Sys2Proof.Machine Sys2Proof.Spec

/-! ### The effects -/

/-- What command `i` can leave in state `s`: an answer and nothing else, a first failure (R146), or the writes of a
command that succeeds, with the checks it has passed. -/
inductive Effect (s : State) : Instr → State → Prop where
  | kept {i : Instr} (st : Byte) (v : Operand) : Effect s i (answered s st v)
  | failed {i : Instr} {st : Byte} (hi : isConstruction i = true) (hsym : s.symerr = 0) (hst : st = 3 ∨ st = 4) :
    Effect s i (answered { s with symerr := st } st 0)
  | cwWritten {idx val : Byte} (h : idx.toNat < 44) :
    Effect s (.cwWrite idx val) (answered { s with cw := s.cw.set idx.toNat val h } 0x00 0)
  | dlenSet {n : Byte} (h : n.toNat ≤ 34) :
    Effect s (.setDlen n) (answered { s with dlen := BitVec.ofNat 6 n.toNat, eclen := 0 } 0x00 0)
  | rsEncoded (v : Operand) :
    Effect s .rsEncode (answered
      { s with
        cw := writeCwFrom s.cw s.dlen.toNat (rsEncode (dataBytes s))
        eclen := if s.dlen = 0 then 0 else 10 } 0x00 v)
  | cleared :
    Effect s .matrixClear (answered
      { s with m := Grid.allUnset, flags := Flags.clear, fmt := 0, symerr := 0 } 0x00 0)
  | placed (p : Placement) (hsym : s.symerr = 0) (hflag : p.flag s.flags = false) (hmask : p.MaskFits s.mask) :
    Effect s p.instr (answered (p.place s) 0x00 (p.result s.mask))
  | mapped (v : Operand) (hsym : s.symerr = 0) (hflags : s.flags = ⟨true, true, true, true, false⟩)
    (hmask : s.mask.toNat ≤ 7) :
    Effect s .mapData (answered (withSymbol s (mappedGrid s) s.fmt s.flags.setMap) 0x00 v)
  | maskSet {id : Byte} (hflags : s.flags = ⟨false, false, false, false, false⟩) :
    Effect s (.setMask id) (answered { s with mask := id } 0x00 0)

theorem Placement.isConstruction_instr (p : Placement) : isConstruction p.instr = true := by
  cases p <;> rfl

theorem Placement.exec_effect (p : Placement) (s : State) : ∃ t, exec p.instr s = .next t ∧ Effect s p.instr t := by
  refine ⟨_, p.exec_instr s, ?_⟩
  split
  case isTrue => exact .kept _ _
  case isFalse hsym =>
    have hsym := not_not.mp hsym
    split
    case isTrue => exact .failed p.isConstruction_instr hsym (.inl rfl)
    case isFalse hflag =>
      split
      case isTrue => exact .failed p.isConstruction_instr hsym (.inr rfl)
      case isFalse hmask =>
        exact .placed p hsym (Bool.eq_false_iff.mpr hflag) fun h => Nat.not_lt.mp fun hlt => hmask ⟨h, hlt⟩

theorem exec_mapData_effect (s : State) : ∃ t, exec .mapData s = .next t ∧ Effect s .mapData t := by
  refine ⟨_, exec_mapData s, ?_⟩
  split
  case isTrue => exact .kept _ _
  case isFalse hsym =>
    have hsym := not_not.mp hsym
    split
    case isTrue => exact .failed rfl hsym (.inl rfl)
    case isFalse hflags =>
      split
      case isTrue => exact .failed rfl hsym (.inr rfl)
      case isFalse hmask => exact .mapped _ hsym (not_not.mp hflags) (Nat.not_lt.mp hmask)

/-- The command answers and leaves the rest of the state. -/
def OnlyAnswers (s : State) (o : Host.Outcome State Fault Refusal) : Prop := ∃ st v, o = .next (answered s st v)

theorem onlyAnswers_respond (st : Status) (v : Operand) (s : State) : OnlyAnswers s (respond st v s) :=
  ⟨_, _, respond_eq_answered st v s⟩

theorem OnlyAnswers.ite {s : State} {a b : Host.Outcome State Fault Refusal} {p : Prop} [Decidable p]
    (ha : OnlyAnswers s a) (hb : OnlyAnswers s b) : OnlyAnswers s (if p then a else b) :=
  iteInduction (fun _ => ha) (fun _ => hb)

/-- The reading commands, by their checks in their order (R51, R148). -/
theorem exec_reader {i : Instr} (h : isReader i = true) (s : State) : OnlyAnswers s (exec i s) := by
  have done := fun st v => onlyAnswers_respond st v s
  cases i with simp only [exec]
  | gfExp | bchFmt => exact done _ _
  | gfLog | cwRead | genRead | maskEval | regRead => exact .ite (done _ _) (done _ _)
  | modRead => exact .ite (done _ _) (.ite (done _ _) (done _ _))
  | _ => cases h

/-- Every command, in every state, completes with one of the effects. -/
theorem exec_effect (i : Instr) (s : State) : ∃ t, exec i s = .next t ∧ Effect s i t := by
  by_cases hr : isReader i = true
  · obtain ⟨st, v, h⟩ := exec_reader hr s
    exact ⟨_, h, .kept st v⟩
  · cases i with
    | cwWrite idx val =>
      by_cases h : idx.toNat < 44
      · exact ⟨_, exec_cwWrite_of_lt h val s, .cwWritten h⟩
      · exact ⟨_, exec_cwWrite_of_ge h val s, .kept _ _⟩
    | setDlen n =>
      by_cases h : n.toNat ≤ 34
      · exact ⟨_, exec_setDlen_of_le h s, .dlenSet h⟩
      · exact ⟨_, exec_setDlen_of_gt h s, .kept _ _⟩
    | rsEncode => exact ⟨_, exec_rsEncode s, eclen_after_rsEncode s ▸ .rsEncoded _⟩
    | matrixClear => exact ⟨_, rfl, .cleared⟩
    | placeFinders => exact Placement.exec_effect .finders s
    | placeTiming => exact Placement.exec_effect .timing s
    | placeAlign => exact Placement.exec_effect .align s
    | placeFormat => exact Placement.exec_effect .format s
    | mapData => exact exec_mapData_effect s
    | setMask id =>
      refine ⟨_, exec_setMask id s, ?_⟩
      split
      case isTrue h => exact .maskSet h
      case isFalse => exact .kept _ _
    | _ => exact absurd rfl hr

/-- The effect of a command that has ended in `t`. -/
theorem effect_of_exec {i : Instr} {s t : State} (h : exec i s = .next t) : Effect s i t := by
  obtain ⟨u, hu, effect⟩ := exec_effect i s
  obtain rfl : t = u := Host.Outcome.next.inj (h.symm.trans hu)
  exact effect

/-! ### Every step completes -/

theorem exec_completes (i : Instr) (s : State) : Completes (exec i s) := (exec_effect i s).imp fun _ => And.left

/-- Settles O10: every command completes, and so do the reset, the idle step and the answer to an illegal word. -/
theorem everyStepCompletes : Obligations.EveryStepCompletes := by
  refine ⟨fun s => ?_, exec_completes⟩
  rcases step_cases s with ⟨-, h⟩ | ⟨rest, -, h⟩ | ⟨w, rest, i, -, -, h⟩ | ⟨w, rest, e, -, -, h⟩ <;> rw [h]
  · exact ⟨_, rfl⟩
  · exact ⟨_, rfl⟩
  · exact exec_completes i _
  · exact ⟨_, rfl⟩

end Sys2Proof.Proofs
end

section
/-! PROOFS. The invariant of R39: it holds at reset, and every effect of a command keeps it. A placement writes
exactly the cells of its own set, which the invariant says were Unset; MAP_DATA leaves no cell Unset, because the
traversal meets every cell outside column 6, and column 6 is structural (R125, R128). -/

namespace Sys2Proof.Proofs

open Sys2Proof.Machine Sys2Proof.Spec

/-! ### Which cells are written -/

theorem writtenCell_eq_true_iff (f : Flags) (r c : Nat) :
    writtenCell f r c = true ↔ f.map = true ∨ ∃ p : Placement, p.flag f = true ∧ p.cells r c = true := by
  simp only [writtenCell, Bool.or_eq_true, Bool.and_eq_true, or_assoc]
  refine or_congr_right ⟨?_, ?_⟩
  · rintro (h | h | h | h)
    · exact ⟨.finders, h⟩
    · exact ⟨.timing, h⟩
    · exact ⟨.align, h⟩
    · exact ⟨.format, h⟩
  · rintro ⟨p, h⟩
    cases p with
    | finders => exact .inl h
    | timing => exact .inr (.inl h)
    | align => exact .inr (.inr (.inl h))
    | format => exact .inr (.inr (.inr h))

/-- Setting a placement's flag adds the cells of its set. -/
theorem writtenCell_setFlag (p : Placement) (f : Flags) (r c : Nat) :
    writtenCell (p.setFlag f) r c = (p.cells r c || writtenCell f r c) := by
  cases p with
  | finders => cases h : inFinder r c <;> simp [writtenCell, Placement.setFlag, Placement.cells, h]
  | timing => cases h : inTiming r c <;> simp [writtenCell, Placement.setFlag, Placement.cells, h]
  | align => cases h : inAlign r c <;> simp [writtenCell, Placement.setFlag, Placement.cells, h]
  | format => cases h : inFormat r c <;> simp [writtenCell, Placement.setFlag, Placement.cells, h]

/-- Once MAP is set, all four placements' flags are. -/
theorem flag_of_map {s : State} (hs : s.Inv) (hmap : s.flags.map = true) (p : Placement) : p.flag s.flags = true := by
  obtain ⟨hfind, htim, haln, hfmtp⟩ := hs.map_placed hmap
  cases p with
  | finders => exact hfind
  | timing => exact htim
  | align => exact haln
  | format => exact hfmtp

/-- The cells of a pattern not yet placed are Unset: no other pattern holds them, and MAP is clear. -/
theorem unset_of_flag_clear {s : State} (hs : s.Inv) {p : Placement} (hflag : p.flag s.flags = false) {r c : Nat}
    (hr : r < 25) (hc : c < 25) (hcell : p.cells r c = true) : readCell s.m r c = .unset := by
  by_contra hset
  rcases (writtenCell_eq_true_iff _ _ _).mp ((hs.cells r hr c hc).mp hset) with hmap | ⟨q, hq, hqcell⟩
  · exact Bool.false_ne_true (hflag.symm.trans (flag_of_map hs hmap p))
  · have hpq : p ≠ q := fun h => Bool.false_ne_true (hflag.symm.trans (h ▸ hq))
    exact Bool.false_ne_true ((Placement.cells_disjoint hpq hr hc hcell).symm.trans hqcell)

/-! ### The cells MAP_DATA meets (R125, R128) -/

theorem exists_pair_of_column : ∀ c < 25, c ≠ 6 → ∃ p ∈ mapPairs, c = p.1 ∨ c = p.1 - 1 := by decide

/-- The traversal visits every cell outside column 6. -/
theorem mem_visitOrder {r c : Nat} (hr : r < 25) (hc : c < 25) (hsix : c ≠ 6) : (r, c) ∈ visitOrder := by
  obtain ⟨p, hp, hcol⟩ := exists_pair_of_column c hc hsix
  have hrow : r ∈ passRows p.2 := by
    cases h : p.2 <;> simpa [passRows, h] using hr
  rw [visitOrder, columnPairs_eq_mapPairs]
  exact List.mem_flatMap.mpr ⟨p, hp, (mem_pairCells_iff p r c).mpr ⟨hrow, hcol⟩⟩

/-- Every cell of column 6 is a finder or a timing cell. -/
theorem column_six_structural : ∀ r < 25, (inFinder r 6 || inTiming r 6) = true := by decide

theorem writtenCell_column_six {f : Flags} (hfind : f.find = true) (htim : f.tim = true) {r : Nat} (hr : r < 25) :
    writtenCell f r 6 = true := by
  have h := column_six_structural r hr
  rw [Bool.or_eq_true] at h
  refine (writtenCell_eq_true_iff _ _ _).mpr (.inr ?_)
  exact h.elim (fun h => ⟨.finders, hfind, h⟩) (fun h => ⟨.timing, htim, h⟩)

theorem dataColour_ne_unset (s : State) (k : Nat) (cell : Nat × Nat) : dataColour s k cell ≠ .unset :=
  iteInduction (motive := (· ≠ CellState.unset)) (fun _ => by decide) (fun _ => by decide)

theorem readCell_mappedGrid (s : State) {r c : Nat} (hr : r < 25) (hc : c < 25) : readCell (mappedGrid s) r c =
    if (r, c) ∈ mapOrder s.m then dataColour s ((mapOrder s.m).idxOf (r, c)) (r, c) else readCell s.m r c :=
  readCell_tabulate _ hr hc

theorem mem_mapOrder_iff (m : Grid) (r c : Nat) :
    (r, c) ∈ mapOrder m ↔ (r, c) ∈ visitOrder ∧ readCell m r c = .unset := by
  rw [← yielded_eq_mapOrder, yielded, List.mem_filter, decide_eq_true_iff]

/-- MAP_DATA skips a cell that is set (R125). -/
theorem readCell_mappedGrid_of_set {s : State} {r c : Nat} (hr : r < 25) (hc : c < 25)
    (hset : readCell s.m r c ≠ .unset) : readCell (mappedGrid s) r c = readCell s.m r c := by
  rw [readCell_mappedGrid s hr hc, if_neg fun hmem => hset ((mem_mapOrder_iff _ _ _).mp hmem).2]

/-- After MAP_DATA in a sound state no cell is Unset (R128). -/
theorem mappedGrid_ne_unset {s : State} (hs : s.Inv) (hflags : s.flags = ⟨true, true, true, true, false⟩) {r c : Nat}
    (hr : r < 25) (hc : c < 25) : readCell (mappedGrid s) r c ≠ .unset := by
  rw [readCell_mappedGrid s hr hc]
  split
  case isTrue => exact dataColour_ne_unset s _ _
  case isFalse notYielded =>
    intro hunset
    refine notYielded ((mem_mapOrder_iff _ _ _).mpr ⟨mem_visitOrder hr hc ?_, hunset⟩)
    rintro rfl
    have written := writtenCell_column_six (f := s.flags) (hflags ▸ rfl) (hflags ▸ rfl) hr
    exact (hs.cells r hr 6 hc).mpr written hunset

/-! ### Every effect keeps the invariant -/

/-- A symbol that is clear, with lengths in range, meets the invariant: no cell is written and no flag is set. -/
theorem inv_of_clear {s : State} (hdlen : s.dlen.toNat ≤ 34)
    (heclen : s.eclen = 0 ∨ (s.eclen = 10 ∧ 1 ≤ s.dlen.toNat)) (hm : s.m = Grid.allUnset)
    (hflags : s.flags = Flags.clear) (hfmt : s.fmt = 0) (hsym : s.symerr = 0) : s.Inv where
  dlen_le := hdlen
  eclen_values := heclen
  symerr_values := .inl hsym
  cells := by simp [hm, hflags, writtenCell]
  map_placed := by simp [hflags]
  fmt_placed := by simp [hflags, hfmt]
  fmt_value := by simp [hflags]
  mask_le := by simp [hflags]

/-- The invariant at reset, whatever CW holds and the host has still to issue (R161). -/
theorem reset_inv (cw : Codewords) (events : List HostEvent) (n : Nat) :
    ({ State.reset with cw := cw, pending := events, resets := n } : State).Inv :=
  inv_of_clear (Nat.zero_le _) (.inl rfl) rfl rfl rfl rfl

/-- The invariant does not speak of the host's side or of CW. -/
theorem inv_answered {s : State} (hs : s.Inv) (st : Byte) (v : Operand) : (answered s st v).Inv := { hs with }

theorem inv_setPending {s : State} (hs : s.Inv) (events : List HostEvent) : (s.setPending events).Inv := { hs with }

/-- A first failure stores SEQUENCE_ERROR or INVALID_MASK_PATTERN (R31, R146). -/
theorem inv_withSymerr {s : State} (hs : s.Inv) {st : Byte} (hst : st = 3 ∨ st = 4) :
    ({ s with symerr := st } : State).Inv :=
  { hs with symerr_values := .inr hst }

/-- RS_ENCODE and SET_DLEN leave a length and a number of EC bytes that fit each other (R22, R23). -/
theorem inv_withLengths {s : State} (hs : s.Inv) (cw : Codewords) {n : BitVec 6} {e : BitVec 4} (hn : n.toNat ≤ 34)
    (he : e = 0 ∨ (e = 10 ∧ 1 ≤ n.toNat)) : ({ s with cw := cw, dlen := n, eclen := e } : State).Inv :=
  { hs with dlen_le := hn, eclen_values := he }

theorem eclen_values_rsEncode (s : State) : (if s.dlen = 0 then (0 : BitVec 4) else 10) = 0 ∨
    ((if s.dlen = 0 then (0 : BitVec 4) else 10) = 10 ∧ 1 ≤ s.dlen.toNat) := by
  split
  case isTrue => exact .inl rfl
  case isFalse h => exact .inr ⟨rfl, Nat.pos_of_ne_zero (mt (toNat_dlen_eq_zero_iff s).mp h)⟩

/-- SET_MASK runs with no flag set, when the invariant asks nothing of MASK (R131). -/
theorem inv_withMask {s : State} (hs : s.Inv) (hflags : s.flags = ⟨false, false, false, false, false⟩) (id : Byte) :
    ({ s with mask := id } : State).Inv :=
  { hs with
    fmt_value := by simp [hflags]
    mask_le := by simp [hflags] }

/-- What the invariant asks of a matrix, FMT and FLAGS that a construction command writes. -/
theorem inv_withSymbol {s : State} (hs : s.Inv) {m : Grid} {fmt : BitVec 15} {f : Flags}
    (hcells : ∀ r < 25, ∀ c < 25, (readCell m r c ≠ .unset ↔ writtenCell f r c = true))
    (hmap : f.map = true → f.find = true ∧ f.tim = true ∧ f.aln = true ∧ f.fmtp = true)
    (hplaced : f.fmtp = true ↔ fmt ≠ 0) (hvalue : f.fmtp = true → fmt = bchFormat (formatDescriptor s.mask))
    (hmask : f.fmtp = true ∨ f.map = true → s.mask.toNat ≤ 7) : (withSymbol s m fmt f).Inv :=
  { hs with cells := hcells, map_placed := hmap, fmt_placed := hplaced, fmt_value := hvalue, mask_le := hmask }

/-- A placement's pattern adds the cells of its set to those written. -/
theorem cells_overlay {s : State} (hs : s.Inv) (p : Placement) {r c : Nat} (hr : r < 25) (hc : c < 25) :
    readCell (overlay s.m p.cells (p.colour s.mask)) r c ≠ .unset ↔ writtenCell (p.setFlag s.flags) r c = true := by
  rw [writtenCell_setFlag, Bool.or_eq_true, ← hs.cells r hr c hc, readCell_overlay _ _ _ hr hc]
  cases hcell : p.cells r c with
  | true => simp [Placement.colour_ne_unset]
  | false => simp

namespace Placement

@[simp] theorem setFlag_map (p : Placement) (f : Flags) : (p.setFlag f).map = f.map := by cases p <;> rfl

/-- A placement clears no flag. -/
theorem setFlag_keeps_placed (p : Placement) {f : Flags}
    (h : f.find = true ∧ f.tim = true ∧ f.aln = true ∧ f.fmtp = true) :
    (p.setFlag f).find = true ∧ (p.setFlag f).tim = true ∧ (p.setFlag f).aln = true ∧ (p.setFlag f).fmtp = true := by
  obtain ⟨hfind, htim, haln, hfmtp⟩ := h
  cases p <;> simp [setFlag, hfind, htim, haln, hfmtp]

/-- The other placements leave FMT and its flag. -/
theorem setFlag_fmtp_of_ne_format {p : Placement} (h : p ≠ format) (f : Flags) : (p.setFlag f).fmtp = f.fmtp :=
  flag_setFlag_of_ne (q := format) h f

theorem fmtAfter_of_ne_format {p : Placement} (h : p ≠ format) (mask : Byte) (old : BitVec 15) :
    p.fmtAfter mask old = old := by
  cases p with
  | format => exact absurd rfl h
  | _ => rfl

/-- PLACE_FORMAT leaves the format value of MASK in FMT (R121). -/
theorem fmtAfter_format {mask : Byte} (h : mask.toNat ≤ 7) (old : BitVec 15) :
    format.fmtAfter mask old = bchFormat (formatDescriptor mask) := (bchFormat_of_mask_le h).symm

end Placement

/-- The format values of R121 are not 0. -/
theorem bchFormat_ne_zero_of_mask_le {mask : Byte} (h : mask.toNat ≤ 7) : bchFormat (formatDescriptor mask) ≠ 0 := by
  have values : ∀ k < 8, BitVec.ofNat 15 (formatValues.getD k 0) ≠ 0 := by decide
  rw [bchFormat_of_mask_le h]
  exact values _ (Nat.lt_succ_of_le h)

theorem inv_place {s : State} (hs : s.Inv) {p : Placement} (hmask : p.MaskFits s.mask) : (p.place s).Inv := by
  have cells := fun r hr c hc => cells_overlay hs p (r := r) (c := c) hr hc
  have placed : (p.setFlag s.flags).map = true → _ := fun h =>
    p.setFlag_keeps_placed (hs.map_placed (p.setFlag_map s.flags ▸ h))
  by_cases hp : p = .format
  · have hle := hmask hp
    subst hp
    have value := Placement.fmtAfter_format hle s.fmt
    refine inv_withSymbol hs cells placed (iff_of_true rfl ?_) (fun _ => value) (fun _ => hle)
    exact value ▸ bchFormat_ne_zero_of_mask_le hle
  · have hfmt := Placement.fmtAfter_of_ne_format hp s.mask s.fmt
    have hflag := Placement.setFlag_fmtp_of_ne_format hp s.flags
    refine inv_withSymbol hs cells placed ?_ ?_ ?_ <;> simp only [hfmt, hflag, Placement.setFlag_map]
    · exact hs.fmt_placed
    · exact hs.fmt_value
    · exact hs.mask_le

theorem inv_mapped {s : State} (hs : s.Inv) (hflags : s.flags = ⟨true, true, true, true, false⟩)
    (hmask : s.mask.toNat ≤ 7) : (withSymbol s (mappedGrid s) s.fmt s.flags.setMap).Inv :=
  inv_withSymbol hs (fun r hr c hc => iff_of_true (mappedGrid_ne_unset hs hflags hr hc) (by simp [writtenCell]))
    (by simp [hflags]) hs.fmt_placed hs.fmt_value (fun _ => hmask)

/-- Every effect of a command keeps the invariant. -/
theorem Effect.inv {s t : State} {i : Instr} (h : Effect s i t) (hs : s.Inv) : t.Inv := by
  cases h with
  | kept st v => exact inv_answered hs st v
  | failed _ _ hst => exact inv_answered (inv_withSymerr hs hst) _ _
  | cwWritten => exact inv_answered (inv_withLengths hs _ hs.dlen_le hs.eclen_values) _ _
  | dlenSet h => exact inv_answered (inv_withLengths hs s.cw (Nat.mod_le _ _ |>.trans h) (.inl rfl)) _ _
  | rsEncoded v => exact inv_answered (inv_withLengths hs _ hs.dlen_le (eclen_values_rsEncode s)) _ _
  | cleared =>
    have clear : ({ s with m := Grid.allUnset, flags := Flags.clear, fmt := 0, symerr := 0 } : State).Inv :=
      inv_of_clear hs.dlen_le hs.eclen_values rfl rfl rfl rfl
    exact inv_answered clear _ _
  | placed p _ _ hmask => exact inv_answered (inv_place hs hmask) _ _
  | mapped v _ hflags hmask => exact inv_answered (inv_mapped hs hflags hmask) _ _
  | maskSet hflags => exact inv_answered (inv_withMask hs hflags _) _ _

/-- Settles O48: the reset state with other events to issue. -/
theorem resetMeetsTheInvariant : Obligations.ResetMeetsTheInvariant :=
  fun events => reset_inv (Codewords.unspecified 0) events 0

/-- Settles O49: a reset puts the reset state, an illegal word changes the response only, and a command has an effect
that keeps the invariant. -/
theorem stepKeepsTheInvariant : Obligations.StepKeepsTheInvariant := by
  intro s t hs ht
  rcases step_cases s with ⟨-, h⟩ | ⟨rest, -, h⟩ | ⟨w, rest, i, -, -, h⟩ | ⟨w, rest, e, -, -, h⟩ <;> rw [h] at ht
  · cases ht
    exact hs
  · cases ht
    exact reset_inv _ _ _
  · exact (effect_of_exec ht).inv (inv_setPending hs rest)
  · cases ht
    exact inv_answered (inv_setPending hs rest) 0x01 0

end Sys2Proof.Proofs
end

section
/-! PROOFS. What follows from the effects and the invariant: the sticky symbol error (R146, R147), the mask and the
cells that stay (R109, R116, R131), and the complete symbol (R62, R128). -/

namespace Sys2Proof.Proofs

open Sys2Proof.Machine Sys2Proof.Spec

/-! ### The sticky symbol error -/

/-- Settles O46: of the effects only a first failure and MATRIX_CLEAR write SYMERR. -/
theorem symerrRecordsTheFirstFailure : Obligations.SymerrRecordsTheFirstFailure := by
  intro i s
  obtain ⟨t, ht, effect⟩ := exec_effect i s
  refine ⟨t, ht, ?_⟩
  cases effect with
  | failed hi hsym hst => exact .inr (.inr ⟨hi, hsym, hst, rfl⟩)
  | cleared => exact .inr (.inl ⟨rfl, rfl⟩)
  | placed p => exact .inl (by simp)
  | mapped => exact .inl (by simp)
  | kept | cwWritten | dlenSet | rsEncoded | maskSet => exact .inl rfl

/-- The construction commands check SYMERR first (R148). -/
theorem exec_construction_of_symerr {i : Instr} (hi : isConstruction i = true) {s : State} (hsym : s.symerr ≠ 0) :
    exec i s = raise .symbolInvalid s := by
  cases i with
  | placeFinders | placeTiming | placeAlign | placeFormat | mapData =>
    simp only [exec, execPlaceFinders, execPlaceTiming, execPlaceAlign, execPlaceFormat, execMapData,
      construct_symerr hsym]
  | _ => cases hi

/-- Settles O47: SYMERR is the construction commands' first check and MOD_READ's second, after its range. -/
theorem symbolInvalidHidesTheMatrix : Obligations.SymbolInvalidHidesTheMatrix := by
  rintro i s hsym (hi | ⟨row, col, hrow, hcol, rfl⟩)
  · exact (exec_construction_of_symerr hi hsym).trans (respond_eq_answered .symbolInvalid 0 s)
  · rw [exec_modRead, if_neg (by omega), if_pos hsym]

/-! ### What stays during construction -/

/-- Settles O50: SET_MASK alone writes MASK, and only with no flag set. -/
theorem maskIsFixedDuringConstruction : Obligations.MaskIsFixedDuringConstruction := by
  intro i s t hflags ht
  cases effect_of_exec ht with
  | maskSet hclear => exact absurd hclear hflags
  | placed p => simp
  | mapped => simp
  | kept | failed | cwWritten | dlenSet | rsEncoded | cleared => rfl

/-- Settles O51: with MAP set, and so every flag, no command that writes cells passes its checks. -/
theorem mappedMatrixIsSealed : Obligations.MappedMatrixIsSealed := by
  intro i s t hs hmap hi ht
  cases effect_of_exec ht with
  | cleared => exact absurd rfl hi
  | placed p _ hflag => exact absurd (flag_of_map hs hmap p) (Bool.eq_false_iff.mp hflag)
  | mapped _ _ hflags => simp [hflags] at hmap
  | kept | failed | cwWritten | dlenSet | rsEncoded | maskSet => rfl

/-- Settles O52: a placement writes cells that were Unset, and MAP_DATA only those it finds Unset. -/
theorem setCellsAreNeverRevisited : Obligations.SetCellsAreNeverRevisited := by
  intro i s t hs hi ht r hr c hc hset
  cases effect_of_exec ht with
  | cleared => exact absurd rfl hi
  | placed p _ hflag =>
    have outside : p.cells r c ≠ true := fun hcell => hset (unset_of_flag_clear hs hflag hr hc hcell)
    rw [answered_m, Placement.place, withSymbol_m, readCell_overlay _ _ _ hr hc, if_neg outside]
  | mapped =>
    rw [answered_m, withSymbol_m, readCell_mappedGrid_of_set hr hc hset]
  | kept | failed | cwWritten | dlenSet | rsEncoded | maskSet => rfl

/-! ### The complete symbol -/

/-- Settles O40: MASK has a formula because FMTP is set, no cell of the mapped matrix is Unset, and all six flag bits
are 1. -/
theorem mapDataLeavesNoCellUnset : Obligations.MapDataLeavesNoCellUnset := by
  intro s hs hsym hflags
  have hmask : s.mask.toNat ≤ 7 := hs.mask_le (.inl (by simp [hflags]))
  have done := exec_mapData s
  rw [if_neg (not_not.mpr hsym), if_neg (not_not.mpr hflags), if_neg (Nat.not_lt.mpr hmask)] at done
  refine ⟨_, done, fun r hr c hc => mappedGrid_ne_unset hs hflags hr hc, _, exec_regRead_of_le (by decide) _, ?_⟩
  simp [answered, registers, hflags, hsym]

theorem cellCode_of_ne_unset {x : CellState} (h : x ≠ .unset) : cellCode x = 1 ∨ cellCode x = 2 := by
  cases x with
  | unset => exact absurd rfl h
  | light => exact .inl rfl
  | dark => exact .inr rfl

/-- Settles O41: with MAP set the invariant says that no cell is Unset. -/
theorem completeSymbolIsLightOrDark : Obligations.CompleteSymbolIsLightOrDark := by
  intro s hs hcomplete
  have hmap : s.flags.map = true := ((validBit_iff _ _).mp hcomplete).1
  refine ⟨by simp [symbolCodes, List.length_flatMap], fun code hcode => ?_⟩
  simp only [symbolCodes, List.mem_flatMap, List.mem_map, List.mem_range] at hcode
  obtain ⟨r, hr, c, hc, rfl⟩ := hcode
  exact cellCode_of_ne_unset ((hs.cells r hr c hc).mpr (by simp [writtenCell, hmap]))

end Sys2Proof.Proofs
end

section
/-! PROOFS. The frames of the commands (R51, R100 to R104, R117 to R121, R130, R131). -/

namespace Sys2Proof.Proofs

open Sys2Proof.Machine Sys2Proof.Spec

/-! ### Readers and SET_MASK -/

/-- Settles O53: a reader only answers. -/
theorem readersChangeOnlyTheResponse : Obligations.ReadersChangeOnlyTheResponse := by
  intro i s t hi ht
  obtain ⟨st, v, h⟩ := exec_reader hi s
  cases ht.symm.trans h
  rfl

/-- Settles O56: the mask is stored or the command is refused. -/
theorem setMaskFrame : Obligations.SetMaskFrame := by
  intro id s t ht
  cases ht.symm.trans (exec_setMask id s)
  split <;> rfl

/-! ### The codeword buffer -/

theorem cwWrite_frame {idx val : Byte} {s t : State} (ht : exec (.cwWrite idx val) s = .next t) :
    t = { s with cw := t.cw, response := t.response } ∧ ∀ i, i ≠ idx.toNat → readCw t.cw i = readCw s.cw i := by
  by_cases h : idx.toNat < 44
  · cases ht.symm.trans (exec_cwWrite_of_lt h val s)
    refine ⟨rfl, fun i hi => ?_⟩
    have written : readCw (writeCw s.cw idx.toNat val) i = readCw s.cw i := by
      rw [readCw_writeCw, if_neg fun heq => hi heq.1.symm]
    rwa [writeCw_of_lt s.cw h val] at written
  · cases ht.symm.trans (exec_cwWrite_of_ge h val s)
    exact ⟨rfl, fun _ _ => rfl⟩

theorem setDlen_frame {n : Byte} {s t : State} (ht : exec (.setDlen n) s = .next t) :
    t = { s with dlen := t.dlen, eclen := t.eclen, response := t.response } := by
  by_cases h : n.toNat ≤ 34
  · cases ht.symm.trans (exec_setDlen_of_le h s)
    rfl
  · cases ht.symm.trans (exec_setDlen_of_gt h s)
    rfl

/-- RS_ENCODE of an empty data segment writes no codeword (R98, R104). -/
theorem rsEncode_dataBytes_of_dlen_eq_zero {s : State} (h : s.dlen = 0) : rsEncode (dataBytes s) = [] :=
  List.eq_nil_of_length_eq_zero (by simp [h])

theorem readCw_writeCwFrom_rsEncode {s : State} {i : Nat} (hi : i < s.dlen.toNat ∨ s.dlen.toNat + 10 ≤ i) :
    readCw (writeCwFrom s.cw s.dlen.toNat (rsEncode (dataBytes s))) i = readCw s.cw i := by
  have short : (rsEncode (dataBytes s)).length ≤ 10 := by
    rw [length_rsEncode]
    split <;> decide
  rw [readCw_writeCwFrom, if_neg (by omega)]

/-- Settles O54: each command's answer says which of CW, DLEN and ECLEN it writes; of CW, one entry or the ten after the
data segment. -/
theorem codewordCommandsFrame : Obligations.CodewordCommandsFrame := by
  refine ⟨fun _ _ _ _ => cwWrite_frame, fun _ _ _ => setDlen_frame, fun s t ht => ?_⟩
  cases ht.symm.trans (exec_rsEncode s)
  refine ⟨rfl, fun h => ?_, fun i hi => readCw_writeCwFrom_rsEncode hi⟩
  simp [answered, rsEncode_dataBytes_of_dlen_eq_zero h, writeCwFrom]

/-! ### The symbol -/

/-- CW, DLEN, ECLEN and MASK, and the host's side but for the response, are as in `s`. -/
def SymbolFrame (s t : State) : Prop :=
  t = { s with m := t.m, flags := t.flags, fmt := t.fmt, symerr := t.symerr, response := t.response }

theorem symbolFrame_withSymbol (s : State) (m : Grid) (fmt : BitVec 15) (f : Flags) (st : Byte) (v : Operand) :
    SymbolFrame s (answered (withSymbol s m fmt f) st v) := rfl

theorem symbolFrame_of_exec {i : Instr} (hi : isConstruction i = true ∨ i = .matrixClear) {s t : State}
    (ht : exec i s = .next t) : SymbolFrame s t := by
  cases effect_of_exec ht with
  | kept | failed | cleared => rfl
  | placed p => exact symbolFrame_withSymbol s _ _ _ _ _
  | mapped => exact symbolFrame_withSymbol s _ _ _ _ _
  | cwWritten | dlenSet | rsEncoded | maskSet => simp [isConstruction] at hi

/-- A placement leaves the matrix, FMT and FLAGS, or writes its pattern, its FMT and its flag. -/
theorem Placement.symbol_after (p : Placement) {s t : State} (ht : exec p.instr s = .next t) :
    (t.m = s.m ∧ t.fmt = s.fmt ∧ t.flags = s.flags) ∨
    (t.m = overlay s.m p.cells (p.colour s.mask) ∧ t.fmt = p.fmtAfter s.mask s.fmt ∧ t.flags = p.setFlag s.flags) := by
  cases ht.symm.trans (p.exec_instr s)
  split
  · exact .inl ⟨rfl, rfl, rfl⟩
  · split
    · exact .inl ⟨rfl, rfl, rfl⟩
    · split
      · exact .inl ⟨rfl, rfl, rfl⟩
      · exact .inr (by simp [place])

theorem Placement.readCell_outside (p : Placement) {s t : State} (ht : exec p.instr s = .next t) :
    ∀ r < 25, ∀ c < 25, p.cells r c = false → readCell t.m r c = readCell s.m r c := by
  intro r hr c hc hout
  rcases p.symbol_after ht with ⟨hm, -⟩ | ⟨hm, -⟩
  · rw [hm]
  · rw [hm, readCell_overlay _ _ _ hr hc, hout, if_neg Bool.false_ne_true]

theorem Placement.fmt_after {p : Placement} (hp : p ≠ .format) {s t : State} (ht : exec p.instr s = .next t) :
    t.fmt = s.fmt := by
  rcases p.symbol_after ht with ⟨-, hfmt, -⟩ | ⟨-, hfmt, -⟩
  · exact hfmt
  · exact hfmt.trans (fmtAfter_of_ne_format hp _ _)

theorem Placement.flags_after (p : Placement) {s t : State} (ht : exec p.instr s = .next t) :
    t.flags = s.flags ∨ t.flags = p.setFlag s.flags :=
  (p.symbol_after ht).imp (fun h => h.2.2) (fun h => h.2.2)

/-- MAP_DATA leaves the matrix and FLAGS, or writes the cells it finds Unset and MAP. -/
theorem mapData_symbol_after {s t : State} (ht : exec .mapData s = .next t) :
    t.fmt = s.fmt ∧ ((t.m = s.m ∧ t.flags = s.flags) ∨ (t.m = mappedGrid s ∧ t.flags = s.flags.setMap)) := by
  have answer := Host.Outcome.next.inj (ht.symm.trans (exec_mapData s))
  generalize mappedGrid s = m at answer ⊢
  subst answer
  split
  · exact ⟨rfl, .inl ⟨rfl, rfl⟩⟩
  · split
    · exact ⟨rfl, .inl ⟨rfl, rfl⟩⟩
    · split
      · exact ⟨rfl, .inl ⟨rfl, rfl⟩⟩
      · exact ⟨rfl, .inr ⟨rfl, rfl⟩⟩

theorem mapData_frame {s t : State} (ht : exec .mapData s = .next t) :
    t.fmt = s.fmt ∧ t.flags = { s.flags with map := t.flags.map } ∧
    ∀ r < 25, ∀ c < 25, readCell s.m r c ≠ .unset → readCell t.m r c = readCell s.m r c := by
  obtain ⟨hfmt, ⟨hm, hflags⟩ | ⟨hm, hflags⟩⟩ := mapData_symbol_after ht
  · exact ⟨hfmt, by rw [hflags], fun _ _ _ _ _ => by rw [hm]⟩
  · exact ⟨hfmt, by rw [hflags]; rfl, fun _ hr _ hc hset => by rw [hm, readCell_mappedGrid_of_set hr hc hset]⟩

/-- Settles O55: what each construction command writes of the symbol, cell by cell. -/
theorem symbolCommandsFrame : Obligations.SymbolCommandsFrame := by
  refine ⟨fun _ _ _ hi ht => symbolFrame_of_exec hi ht, fun s t ht => ?_, fun s t ht => ?_, fun s t ht => ?_,
    fun s t ht => ?_, fun _ _ => mapData_frame⟩
  · refine ⟨Placement.fmt_after (p := .finders) (by decide) ht, ?_, Placement.readCell_outside .finders ht⟩
    exact (Placement.flags_after .finders ht).elim (fun h => by rw [h]) (fun h => by rw [h]; rfl)
  · refine ⟨Placement.fmt_after (p := .timing) (by decide) ht, ?_, Placement.readCell_outside .timing ht⟩
    exact (Placement.flags_after .timing ht).elim (fun h => by rw [h]) (fun h => by rw [h]; rfl)
  · refine ⟨Placement.fmt_after (p := .align) (by decide) ht, ?_, Placement.readCell_outside .align ht⟩
    exact (Placement.flags_after .align ht).elim (fun h => by rw [h]) (fun h => by rw [h]; rfl)
  · refine ⟨?_, Placement.readCell_outside .format ht⟩
    exact (Placement.flags_after .format ht).elim (fun h => by rw [h]) (fun h => by rw [h]; rfl)

end Sys2Proof.Proofs
end

section
/-! PROOFS. The status codes each command answers (R143), by its checks in their order. -/

namespace Sys2Proof.Proofs

open Sys2Proof.Machine Sys2Proof.Spec

/-- The command ends with an answer whose status is one of `codes`. -/
def AnswersOneOf (codes : List Byte) (o : Host.Outcome State Fault Refusal) : Prop :=
  ∃ (t : State) (status : Byte) (result : Operand),
    o = .next t ∧ t.response = some (status ++ result) ∧ status ∈ codes

theorem answersOneOf_respond {codes : List Byte} {st : Status} (h : st.code ∈ codes) (v : Operand) (s : State) :
    AnswersOneOf codes (respond st v s) := ⟨_, _, _, respond_eq_answered st v s, rfl, h⟩

theorem AnswersOneOf.ite {codes : List Byte} {a b : Host.Outcome State Fault Refusal} {p : Prop} [Decidable p]
    (ha : AnswersOneOf codes a) (hb : AnswersOneOf codes b) : AnswersOneOf codes (if p then a else b) :=
  iteInduction (fun _ => ha) (fun _ => hb)

/-- The head of the construction commands answers SYMBOL_INVALID or SEQUENCE_ERROR (R145, R147). -/
theorem AnswersOneOf.construct {codes : List Byte} {g : Bool} {body : State → Host.Outcome State Fault Refusal}
    {s : State} (hinvalid : 0x06 ∈ codes) (hsequence : 0x03 ∈ codes) (hbody : AnswersOneOf codes (body s)) :
    AnswersOneOf codes (construct g body s) := by
  rcases construct_cases g body s with ⟨-, h⟩ | ⟨-, -, h⟩ | ⟨-, -, h⟩ <;> rw [h]
  · exact answersOneOf_respond (st := .symbolInvalid) hinvalid 0 s
  · exact answersOneOf_respond (st := .sequenceError) hsequence 0 _
  · exact hbody

/-- Settles O45: the statuses along each command's checks are the ones its row lists. -/
theorem statusCodesPerCommand : Obligations.StatusCodesPerCommand := by
  intro i s
  have ends : ∀ {codes : List Byte} (st : Status) (v : Operand) (t : State), st.code ∈ codes →
      AnswersOneOf codes (respond st v t) := fun _ v t h => answersOneOf_respond h v t
  change AnswersOneOf (allowedStatus i) (exec i s)
  cases i with simp only [exec, allowedStatus]
  | gfExp | bchFmt | rsEncode | matrixClear => exact ends .ok _ _ (by decide)
  | gfLog => exact .ite (ends .logOfZero _ _ (by decide)) (ends .ok _ _ (by decide))
  | cwWrite | cwRead | setDlen | genRead | regRead =>
    exact .ite (ends .ok _ _ (by decide)) (ends .badOperand _ _ (by decide))
  | modRead =>
    exact .ite (ends .badOperand _ _ (by decide))
      (.ite (ends .symbolInvalid _ _ (by decide)) (ends .ok _ _ (by decide)))
  | maskEval => exact .ite (ends .ok _ _ (by decide)) (ends .invalidMaskPattern _ _ (by decide))
  | setMask => exact .ite (ends .sequenceError _ _ (by decide)) (ends .ok _ _ (by decide))
  | placeFinders | placeTiming | placeAlign =>
    exact .construct (by decide) (by decide) (ends .ok _ _ (by decide))
  | placeFormat | mapData =>
    exact .construct (by decide) (by decide)
      (.ite (ends .ok _ _ (by decide)) (ends .invalidMaskPattern _ _ (by decide)))

end Sys2Proof.Proofs
end

section
/-! PROOFS. Two runs of a command side by side: from states that differ in the host's events (R54), or in codewords the
command does not read (R46, R99, R130), it takes the same checks and writes the same. -/

namespace Sys2Proof.Proofs

open Sys2Proof.Machine Sys2Proof.Spec

/-! ### Two runs side by side -/

/-- Both runs complete, in states related by `R`. -/
def BothEnd (R : State → State → Prop) (a b : Host.Outcome State Fault Refusal) : Prop :=
  ∃ t u, a = .next t ∧ b = .next u ∧ R t u

section
variable {R : State → State → Prop}

theorem bothEnd_respond {s s' : State} (st : Status) (v : Operand)
    (h : R (answered s st.code v) (answered s' st.code v)) : BothEnd R (respond st v s) (respond st v s') :=
  ⟨_, _, respond_eq_answered st v s, respond_eq_answered st v s', h⟩

/-- The same check decides both runs. -/
theorem BothEnd.ite {a b a' b' : Host.Outcome State Fault Refusal} {p : Prop} [Decidable p] (h : BothEnd R a a')
    (h' : BothEnd R b b') : BothEnd R (if p then a else b) (if p then a' else b') := by
  split
  · exact h
  · exact h'

/-- The head of the construction commands decides both runs by SYMERR and the guard (R148). -/
theorem BothEnd.construct {g : Bool} {body body' : State → Host.Outcome State Fault Refusal} {s s' : State}
    (hsym : s'.symerr = s.symerr) (hraise : BothEnd R (raise .symbolInvalid s) (raise .symbolInvalid s'))
    (hfail : BothEnd R (fail .sequenceError s) (fail .sequenceError s')) (hbody : BothEnd R (body s) (body' s')) :
    BothEnd R (construct g body s) (construct g body' s') := by
  simp only [Machine.construct, hsym]
  exact .ite hraise (.ite hfail hbody)

end

/-! ### The host's later events (R54) -/

/-- `u` is `t` but for the host's events, which are `events`. -/
def WithEvents (events : List HostEvent) (t u : State) : Prop := u = t.setPending events

section
variable (s : State) (events : List HostEvent) (m : Grid) (fmt : BitVec 15) (f : Flags) (st : Byte) (v : Operand)

theorem withEvents_placed : WithEvents events (answered ((s.setM m).setFlags f) st v)
    (answered (((s.setPending events).setM m).setFlags f) st v) := rfl

theorem withEvents_formatPlaced : WithEvents events (answered (((s.setM m).setFmt fmt).setFlags f) st v)
    (answered ((((s.setPending events).setM m).setFmt fmt).setFlags f) st v) := rfl

end

/-- No command looks at the host's later events. -/
theorem exec_withEvents (i : Instr) (s : State) (events : List HostEvent) :
    BothEnd (WithEvents events) (exec i s) (exec i (s.setPending events)) := by
  cases i with simp only [exec]
  | gfExp | bchFmt | rsEncode | matrixClear => exact bothEnd_respond _ _ rfl
  | gfLog | cwWrite | cwRead | setDlen | genRead | maskEval | setMask | regRead =>
    exact .ite (bothEnd_respond _ _ rfl) (bothEnd_respond _ _ rfl)
  | modRead => exact .ite (bothEnd_respond _ _ rfl) (.ite (bothEnd_respond _ _ rfl) (bothEnd_respond _ _ rfl))
  | placeFinders | placeTiming | placeAlign =>
    exact .construct rfl (bothEnd_respond _ _ rfl) (bothEnd_respond _ _ rfl)
      (bothEnd_respond _ _ (withEvents_placed s events _ _ _ _))
  | placeFormat =>
    exact .construct rfl (bothEnd_respond _ _ rfl) (bothEnd_respond _ _ rfl)
      (.ite (bothEnd_respond _ _ (withEvents_formatPlaced s events _ _ _ _ _)) (bothEnd_respond _ _ rfl))
  | mapData =>
    exact .construct rfl (bothEnd_respond _ _ rfl) (bothEnd_respond _ _ rfl)
      (.ite (bothEnd_respond _ _ (withEvents_placed s events _ _ _ _)) (bothEnd_respond _ _ rfl))

theorem runs_withEvents {i : Instr} {s t : State} (h : exec i s = .next t) (events : List HostEvent) :
    exec i (s.setPending events) = .next (t.setPending events) := by
  obtain ⟨t', u, ht, hu, rfl⟩ := exec_withEvents i s events
  cases h.symm.trans ht
  exact hu

/-- A step on a command word leaves the effect the command has when it is the only one issued. -/
theorem step_command (s : State) (w : Word) (rest : List HostEvent) :
    step { s with pending := .command w :: rest } = .next { commandEffect s w with pending := rest } := by
  cases hd : decode w with
  | ok i =>
    have alone := runs_of_decode_ok hd s []
    have queued := runs_of_decode_ok hd s rest
    obtain ⟨t, ht⟩ := exec_completes i { s with pending := [] }
    rw [queued, commandEffect, alone, ht]
    exact runs_withEvents ht rest
  | error e =>
    have alone := rejects_of_decode_error hd s []
    have queued := rejects_of_decode_error hd s rest
    rw [queued, commandEffect, alone]
    rfl

theorem run_succ_of_step {s t : State} (h : step s = .next t) (k : Nat) :
    Host.Core.run core (k + 1) s = Host.Core.run core k t := by
  have hcore : core.step s = .next t := h
  simp only [Host.Core.run, hcore]

/-- Settles O11: the first word has its own effect, and the words after it run from the state it leaves. -/
theorem commandSequenceIsSequential : Obligations.CommandSequenceIsSequential := by
  intro ws
  induction ws with
  | nil => exact fun _ _ => rfl
  | cons w ws ih =>
    intro s rest
    have first := step_command s w (ws.map HostEvent.command ++ rest)
    have later := ih (commandEffect s w) rest
    exact (run_succ_of_step first _).trans later

/-! ### Codewords that are not read (R46) -/

/-- The two states are the same but for CW. -/
def SameButCw (t u : State) : Prop := { u with cw := t.cw } = t

section
variable (s : State) (cw : Codewords) (m : Grid) (fmt : BitVec 15) (f : Flags) (st : Byte) (v : Operand)

theorem sameButCw_placed : SameButCw (answered ((s.setM m).setFlags f) st v)
    (answered ((({ s with cw := cw } : State).setM m).setFlags f) st v) := rfl

theorem sameButCw_formatPlaced : SameButCw (answered (((s.setM m).setFmt fmt).setFlags f) st v)
    (answered (((({ s with cw := cw } : State).setM m).setFmt fmt).setFlags f) st v) := rfl

end

/-- Settles O57: the checks of these commands and what they write do not depend on CW. -/
theorem bufferContentsStayHidden : Obligations.BufferContentsStayHidden := by
  intro i s v hi
  change BothEnd SameButCw (exec i s) (exec i { s with cw := v })
  have done : ∀ (st : Status) (r : Operand) {x y : State}, SameButCw (answered x st.code r) (answered y st.code r) →
    BothEnd SameButCw (respond st r x) (respond st r y) := fun st r _ _ h => bothEnd_respond st r h
  cases i with simp only [exec]
  | gfExp | bchFmt | matrixClear => exact done _ _ rfl
  | gfLog | cwWrite | setDlen | genRead | maskEval | setMask | regRead => exact .ite (done _ _ rfl) (done _ _ rfl)
  | modRead => exact .ite (done _ _ rfl) (.ite (done _ _ rfl) (done _ _ rfl))
  | placeFinders | placeTiming | placeAlign =>
    exact .construct rfl (done _ _ rfl) (done _ _ rfl) (done _ _ (sameButCw_placed s v _ _ _ _))
  | placeFormat =>
    exact .construct rfl (done _ _ rfl) (done _ _ rfl)
      (.ite (done _ _ (sameButCw_formatPlaced s v _ _ _ _ _)) (done _ _ rfl))
  | cwRead | rsEncode | mapData => cases hi

/-! ### Codewords outside the data segment and the stream (R99, R130) -/

/-- RS_ENCODE reads the data segment only. -/
theorem dataBytes_congr {s : State} {v : Codewords} (h : ∀ i < s.dlen.toNat, readCw v i = readCw s.cw i) :
    dataBytes { s with cw := v } = dataBytes s :=
  List.map_congr_left fun i hi => h i (List.mem_range.mp hi)

/-- MAP_DATA reads the stream only: bit k is a bit of codeword k / 8, which is in the stream where k is. -/
theorem streamBit_congr {s : State} {v : Codewords}
    (h : ∀ i < s.dlen.toNat + s.eclen.toNat, readCw v i = readCw s.cw i) :
    streamBit { s with cw := v } = streamBit s := by
  funext k
  refine if_ctx_congr Iff.rfl (fun hk => ?_) (fun _ => rfl)
  rw [h (k / 8) (Nat.div_lt_of_lt_mul hk)]

/-- What was written reads back the same in both buffers. -/
theorem readCw_writeCwFrom_congr (v w : Codewords) (a : Nat) (bs : List Byte) {k : Nat} (hk : k < bs.length) :
    readCw (writeCwFrom v a bs) (a + k) = readCw (writeCwFrom w a bs) (a + k) := by
  rw [readCw_writeCwFrom, readCw_writeCwFrom]
  refine if_ctx_congr Iff.rfl (fun _ => rfl) (fun outside => ?_)
  rw [readCw_of_ge v (by omega), readCw_of_ge w (by omega)]

/-- Settles O58: the EC bytes are computed from the data segment and read back from where they were written; MAP_DATA's
loop takes its bits from the stream. -/
theorem streamReadersSeeOnlyTheStream : Obligations.StreamReadersSeeOnlyTheStream := by
  refine ⟨fun s v h => ?_, fun s v h => ?_⟩
  · have same := dataBytes_congr h
    refine ⟨_, _, exec_rsEncode s, exec_rsEncode { s with cw := v }, ?_⟩
    rw [same]
    exact ⟨rfl, fun k hk => readCw_writeCwFrom_congr _ _ _ _ (hk.trans_le (Nat.mod_le _ _))⟩
  · change BothEnd SameButCw (exec .mapData s) (exec .mapData { s with cw := v })
    simp only [exec, execMapData]
    refine .construct rfl (bothEnd_respond _ _ rfl) (bothEnd_respond _ _ rfl) ?_
    simp only [streamBit_congr h]
    exact .ite (bothEnd_respond _ _ (sameButCw_placed s v _ _ _ _)) (bothEnd_respond _ _ rfl)

end Sys2Proof.Proofs
end

section
/-! PROOFS. The opcode map as the decoder's specification (R64, R76): a word under an assigned opcode decodes exactly
when the reserved bits of its row are 0. -/

namespace Sys2Proof.Proofs

open Sys2Proof.Machine Sys2Proof.Spec Sys2Proof.Laws

/-! ### The reserved bits of a row -/

/-- The operand part of a row's mask: the reserved bits of its format. -/
def reservedBits (row : OpcodeRow) : Operand := operandField row.mask

/-- Every row tests the whole opcode and wants its reserved bits 0 (R76). -/
theorem opcodeMap_rows : ∀ row ∈ opcodeMap, row.mask = (0xFF#8 ++ reservedBits row : Word) ∧
    row.pattern = (row.opc ++ 0#24 : Word) := by decide

theorem word_eq_append (w : Word) : (opcField w ++ operandField w : Word) = w := append_eq_word rfl rfl

theorem append_inj_word {a b : Byte} {v u : Operand} : (a ++ v : Word) = b ++ u ↔ a = b ∧ v = u := by
  refine ⟨fun h => ⟨?_, ?_⟩, fun ⟨ha, hv⟩ => ha ▸ hv ▸ rfl⟩
  · simpa using congrArg opcField h
  · simpa using congrArg operandField h

/-- A word matches a row when its opcode is the row's and its reserved bits are 0 (R64). -/
theorem matches_iff {row : OpcodeRow} (hrow : row ∈ opcodeMap) (w : Word) :
    Matches w row ↔ opcField w = row.opc ∧ operandField w &&& reservedBits row = 0 := by
  obtain ⟨hmask, hpattern⟩ := opcodeMap_rows row hrow
  rw [Matches, hmask, hpattern]
  nth_rw 1 [← word_eq_append w]
  rw [MatchesRow.word_mask, append_inj_word]
  rfl

theorem opc_injOn_opcodeMap : ∀ a ∈ opcodeMap, ∀ b ∈ opcodeMap, a.opc = b.opc → a = b := by decide

/-! ### What a word under an assigned opcode decodes to -/

/-- A word under the opcode `opc` decodes to a command of that opcode when its `reserved` bits are 0, and is rejected
for them otherwise (R64). -/
def DecodesBy (opc : Byte) (reserved : Operand) : Prop :=
  ∀ v : Operand, if v &&& reserved = 0 then ∃ i, decode (opc ++ v) = .ok i ∧ i.opcode = opc
    else decode (opc ++ v) = .error (.reservedBitSet opc)

theorem decodesBy_of_ite {opc : Byte} {reserved : Operand} {p : Operand → Prop} [DecidablePred p]
    {mk : Operand → Instr} (h : ∀ v, decode (opc ++ v) = if p v then .ok (mk v) else .error (.reservedBitSet opc))
    (hp : ∀ v, v &&& reserved = 0 ↔ p v) (hi : ∀ v, (mk v).opcode = opc) : DecodesBy opc reserved := by
  intro v
  rw [h v]
  simp only [hp]
  split
  case isTrue => exact ⟨_, rfl, hi v⟩
  case isFalse => rfl

/-- The bits from `n` on are 0 exactly when the number is below 2^n. -/
theorem and_high_eq_zero_iff {m n : Nat} (v : BitVec (m + n)) :
    v &&& (BitVec.allOnes m ++ 0#n) = 0#(m + n) ↔ v.toNat < 2 ^ n := by
  constructor
  · intro h
    refine Nat.lt_pow_two_of_testBit _ fun i hi => ?_
    by_cases hw : i < m + n
    · have reserved : (BitVec.allOnes m ++ 0#n).getLsbD i = true := by
        simp [BitVec.getLsbD_append, Nat.not_lt.mpr hi, show i - n < m by omega]
      have bit := congrArg (BitVec.getLsbD · i) h
      simp only [BitVec.getLsbD_and, reserved, Bool.and_true, BitVec.getLsbD_zero] at bit
      exact bit
    · exact BitVec.getLsbD_of_ge v i (Nat.not_lt.mp hw)
  · intro h
    ext i hi
    by_cases hlow : i < n
    · simp [BitVec.getElem_append, hlow]
    · have hpow : 2 ^ n ≤ 2 ^ i := Nat.pow_le_pow_right (by decide) (Nat.not_lt.mp hlow)
      have high : v[i] = false := Nat.testBit_lt_two_pow (h.trans_le hpow)
      simp [high]

theorem decodesBy_formatB8 {opc : Byte} {mk : Byte → Instr}
    (h : ∀ v : Operand, decode (opc ++ v) = formatB8 (opc ++ v) mk) (hi : ∀ b, (mk b).opcode = opc) :
    DecodesBy opc 0xFFFF00 :=
  decodesBy_of_ite (fun v => (h v).trans (formatB8_append opc v mk)) (and_high_eq_zero_iff (m := 16) (n := 8))
    (fun _ => hi _)

theorem decodesBy_formatTwo {opc : Byte} {mk : Byte → Byte → Instr}
    (h : ∀ v : Operand, decode (opc ++ v) = formatTwo (opc ++ v) mk) (hi : ∀ a b, (mk a b).opcode = opc) :
    DecodesBy opc 0xFF0000 :=
  decodesBy_of_ite (fun v => (h v).trans (formatTwo_append opc v mk)) (and_high_eq_zero_iff (m := 8) (n := 16))
    (fun _ => hi _ _)

theorem decodesBy_formatN {opc : Byte} {i : Instr} (h : ∀ v : Operand, decode (opc ++ v) = formatN (opc ++ v) i)
    (hi : i.opcode = opc) : DecodesBy opc 0xFFFFFF :=
  decodesBy_of_ite (fun v => (h v).trans (formatN_append opc v i))
    (fun v => by rw [show (0xFFFFFF : Operand) = BitVec.allOnes 24 from rfl, BitVec.and_allOnes]) (fun _ => hi)

theorem decodesBy_formatD5 : DecodesBy 0x08 0xFFFFE0 :=
  decodesBy_of_ite (fun v => (decode_bchFmt_word v).trans (formatD5_append 0x08 v .bchFmt))
    (and_high_eq_zero_iff (m := 19) (n := 5)) (fun _ => rfl)

/-- Formats I24 and MRC reserve no bit (R69, R72). -/
theorem decodesBy_unreserved {opc : Byte} {mk : Operand → Instr} (h : ∀ v, decode (opc ++ v) = .ok (mk v))
    (hi : ∀ v, (mk v).opcode = opc) : DecodesBy opc 0 :=
  decodesBy_of_ite (p := fun _ => True) (fun v => (h v).trans (if_pos trivial).symm) (fun v => by simp) hi

theorem decodesBy_of_mem : ∀ row ∈ opcodeMap, DecodesBy row.opc (reservedBits row) := by
  simp only [opcodeMap, List.cons_append, List.nil_append, List.forall_mem_cons]
  exact ⟨decodesBy_unreserved decode_gfExp_word fun _ => rfl,
    decodesBy_formatB8 decode_gfLog_word fun _ => rfl,
    decodesBy_formatD5,
    decodesBy_formatTwo decode_cwWrite_word fun _ _ => rfl,
    decodesBy_formatB8 decode_cwRead_word fun _ => rfl,
    decodesBy_formatB8 decode_setDlen_word fun _ => rfl,
    decodesBy_formatB8 decode_genRead_word fun _ => rfl,
    decodesBy_formatN decode_rsEncode_word rfl,
    decodesBy_formatN decode_matrixClear_word rfl,
    decodesBy_formatN decode_placeFinders_word rfl,
    decodesBy_formatN decode_placeTiming_word rfl,
    decodesBy_formatN decode_placeAlign_word rfl,
    decodesBy_formatN decode_placeFormat_word rfl,
    decodesBy_formatTwo decode_modRead_word fun _ _ => rfl,
    decodesBy_unreserved decode_maskEval_word fun _ => rfl,
    decodesBy_formatN decode_mapData_word rfl,
    decodesBy_formatB8 decode_setMask_word fun _ => rfl,
    decodesBy_formatB8 decode_regRead_word fun _ => rfl,
    List.forall_mem_nil _⟩

/-- Under an assigned opcode a word that matches its row decodes to a command of it. -/
theorem decode_of_matches {w : Word} {row : OpcodeRow} (hrow : row ∈ opcodeMap) (h : Matches w row) :
    ∃ i, decode w = .ok i ∧ i.opcode = row.opc := by
  obtain ⟨hopc, hreserved⟩ := (matches_iff hrow w).mp h
  have decoded := decodesBy_of_mem row hrow (operandField w)
  rw [if_pos hreserved, ← hopc, word_eq_append] at decoded
  exact hopc ▸ decoded

/-- Under an assigned opcode a word that does not match its row has a reserved bit set. -/
theorem decode_of_not_matches {w : Word} {row : OpcodeRow} (hrow : row ∈ opcodeMap) (hopc : row.opc = opcField w)
    (h : ¬Matches w row) : decode w = .error (.reservedBitSet (opcField w)) := by
  have hreserved := fun hz => h ((matches_iff hrow w).mpr ⟨hopc.symm, hz⟩)
  have rejected := decodesBy_of_mem row hrow (operandField w)
  rwa [if_neg hreserved, hopc, word_eq_append] at rejected

theorem decode_of_unassigned {w : Word} (h : ¬∃ row ∈ opcodeMap, row.opc = opcField w) :
    decode w = .error (.unassignedOpcode (opcField w)) := by
  have unassigned : opcField w ∉ opcodeMap.map OpcodeRow.opc := fun hmem => h (List.mem_map.mp hmem)
  unfold decode
  split
  iterate 18 next hopc => exact absurd (by decide) (hopc ▸ unassigned)
  rfl

/-! ### The opcode map decides decoding -/

theorem matches_iff_decode {w : Word} {row : OpcodeRow} (hrow : row ∈ opcodeMap) :
    Matches w row ↔ ∃ i, decode w = .ok i ∧ i.opcode = row.opc := by
  refine ⟨decode_of_matches hrow, fun ⟨i, hd, hopc⟩ => ?_⟩
  rw [← opc_injOn_opcodeMap _ (rowOf_mem_opcodeMap i) _ hrow hopc]
  exact matches_rowOf_of_decode_ok hd

theorem decode_of_unmatched {w : Word} (h : ∀ row ∈ opcodeMap, ¬Matches w row) :
    decode w = .error (if ∃ row ∈ opcodeMap, row.opc = opcField w then .reservedBitSet (opcField w)
      else .unassignedOpcode (opcField w)) := by
  split
  case isTrue hassigned =>
    obtain ⟨row, hrow, hopc⟩ := hassigned
    exact decode_of_not_matches hrow hopc (h row hrow)
  case isFalse hunassigned => exact decode_of_unassigned hunassigned

/-- Settles O3: a row is matched by its opcode and its reserved bits, which its format tests; the opcode alone tells two
rows apart. -/
theorem decodingFollowsTheOpcodeMap : Obligations.DecodingFollowsTheOpcodeMap := by
  refine ⟨fun w row hrow => matches_iff_decode hrow, fun w => ⟨decode_of_unmatched, fun h row hrow hm => ?_⟩,
    fun w a ha b hb hma hmb => ?_⟩
  · obtain ⟨i, hd, -⟩ := decode_of_matches hrow hm
    cases hd.symm.trans h
  · exact opc_injOn_opcodeMap a ha b hb (((matches_iff ha w).mp hma).1.symm.trans ((matches_iff hb w).mp hmb).1)

end Sys2Proof.Proofs
end

section
/-! PROOFS. Assembly lines (R73, R80, R82): a command's mnemonic selects its format, and each operand is read back
from its field. -/

namespace Sys2Proof.Proofs

open Sys2Proof.Machine Sys2Proof.Spec

/-! ### Operands read back from their fields -/

theorem fieldOf_toNat {n : Nat} (v : BitVec n) : fieldOf n (v.toNat : Int) = some v := by
  have hlt : (v.toNat : Int) < 2 ^ n := by exact_mod_cast v.isLt
  rw [fieldOf, if_pos ⟨Int.natCast_nonneg _, hlt⟩, Int.toNat_natCast, BitVec.ofNat_toNat, BitVec.setWidth_eq]

theorem asmOne_toNat (mk : Byte → Instr) (a : Byte) : asmOne mk [(a.toNat : Int)] = some (mk a) := by
  rw [asmOne, fieldOf_toNat, Option.map_some]

theorem asmTwo_toNat (mk : Byte → Byte → Instr) (a b : Byte) :
    asmTwo mk [(a.toNat : Int), (b.toNat : Int)] = some (mk a b) := by
  rw [asmTwo, fieldOf_toNat, fieldOf_toNat, Option.bind_some, Option.map_some]

theorem asmThree_toNat (mk : Byte → Byte → Byte → Instr) (a b c : Byte) :
    asmThree mk [(a.toNat : Int), (b.toNat : Int), (c.toNat : Int)] = some (mk a b c) := by
  rw [asmThree, fieldOf_toNat, fieldOf_toNat, fieldOf_toNat, Option.bind_some, Option.bind_some, Option.map_some]

theorem asmDescriptor_toNat (d : BitVec 5) : asmDescriptor [(d.toNat : Int)] = some (.bchFmt d) := by
  rw [asmDescriptor, fieldOf_toNat, Option.map_some]

theorem asmSigned_of_inRange {n : Int} (h : imm24InRange n = true) : asmSigned [n] = some (.gfExp n) := if_pos h

/-! ### Mnemonics -/

/-- The operands of a command name it under its own mnemonic, which is no other command's (R73, R80). -/
theorem instrOf_instrMnemonic {i : Instr} (h : i.wellFormed = true) :
    instrOf (instrMnemonic i).toList (instrOperands i) = some i := by
  cases i <;> simp only [instrMnemonic, instrOperands] <;>
    simp only [instrOf, String.toList_inj, String.reduceEq, if_true, if_false]
  case gfExp n => exact asmSigned_of_inRange h
  case bchFmt d => exact asmDescriptor_toNat d
  case maskEval id row col => exact asmThree_toNat _ id row col
  case cwWrite idx val => exact asmTwo_toNat _ idx val
  case modRead row col => exact asmTwo_toNat _ row col
  case gfLog v => exact asmOne_toNat _ v
  case cwRead idx => exact asmOne_toNat _ idx
  case setDlen n => exact asmOne_toNat _ n
  case genRead j => exact asmOne_toNat _ j
  case setMask id => exact asmOne_toNat _ id
  case regRead sel => exact asmOne_toNat _ sel
  case rsEncode | matrixClear | placeFinders | placeTiming | placeAlign | placeFormat | mapData => rfl

theorem words_disassemble (w : Word) : (disassemble w).words = some [w] := by
  rw [disassemble]
  cases hd : decode w with
  | ok i => simp only [AsmLine.words, wellFormed_of_decode_ok hd, encode_of_decode_ok hd, if_true]
  | error e => rfl

/-- Settles O6: a disassembled command is encoded again, an illegal word is printed as it is. -/
theorem disassembledLineAssemblesBack : Obligations.DisassembledLineAssemblesBack :=
  ⟨words_disassemble, fun _ => instrOf_instrMnemonic⟩

end Sys2Proof.Proofs
end

section
/-! PROOFS. The step on a decoded word, the idle step and the reset event (R158, R160, R161). -/

namespace Sys2Proof.Proofs

open Sys2Proof.Machine Sys2Proof.Spec

/-- Settles O7: the step decodes the oldest word and runs its command. -/
theorem stepRunsTheDecodedCommand : Obligations.StepRunsTheDecodedCommand := fun _ _ => runs_of_decode_ok

/-- Settles O9: the fields of the reset state. -/
theorem resetStateHoldsTheSpecValues : Obligations.ResetStateHoldsTheSpecValues :=
  ⟨rfl, rfl, fun r _ c _ => readCell_allUnset r c, rfl, rfl, rfl, rfl⟩

/-- Settles O8: with no event the step idles; a reset event is taken and puts the reset state before the later events.
-/
theorem resetEventAndIdle : Obligations.ResetEventAndIdle := by
  refine ⟨fun s => rfl, fun s rest => ⟨_, rfl, ?_⟩⟩
  exact ⟨rfl, rfl, fun r _ c _ => readCell_allUnset r c, rfl, rfl, rfl, rfl, rfl, rfl⟩

end Sys2Proof.Proofs
end

section
/-! PROOFS. The field laws of exp and log (R84, R90), the generator's roots (R94) and the format values (R107). -/

namespace Sys2Proof.Proofs

open Sys2Proof.Machine Sys2Proof.Spec

/-- exp has period 255 over all integers (R90). -/
theorem gfExp_add_period (n : Int) : gfExp (n + 255) = gfExp n := by
  rw [gfExp_eq_expEntry, gfExp_eq_expEntry, Int.add_emod_right]

theorem gfExp_of_le {i : Nat} (hi : i ≤ 254) : gfExp (i : Int) = expEntry i := by
  rw [gfExp_natCast, Nat.mod_eq_of_lt (Nat.lt_succ_of_le hi)]

theorem gfExp_logEntry {v : Byte} (hv : v ≠ 0) : gfExp ((logEntry v).toNat : Nat) = v := by
  rw [gfExp_of_le (logEntry_le v hv), expEntry_logEntry v hv]

/-- Settles O14: exp on 0..254 is the table, which LOG inverts, and no power of alpha is 0. -/
theorem expAndLogFieldLaws : Obligations.ExpAndLogFieldLaws := by
  refine ⟨fun v => gfExp_logEntry, fun i hi => ?_, by decide, by decide, gfExp_add_period, by decide +kernel⟩
  rw [gfExp_of_le hi, logEntry_expEntry i hi]

/-- Settles O25: the product is multiplied out root by root. -/
theorem generatorIsTheProductOfItsRoots : Obligations.GeneratorIsTheProductOfItsRoots := by
  unfold Obligations.GeneratorIsTheProductOfItsRoots
  decide +kernel

/-- Settles O28: the 32 descriptors are run through the reduction. -/
theorem bchFormatProperties : Obligations.BchFormatProperties := by
  unfold Obligations.BchFormatProperties
  decide +kernel

end Sys2Proof.Proofs
end

section
/-! PROOFS. The host's payload procedure (R133 to R139): the bit string has 16 bits and 8 a character, so it fits the
data segment up to 32 characters; a byte taken modulo 255 is not 255. -/

namespace Sys2Proof.Proofs

open Sys2Proof.Machine

theorem length_byteBits (b : Byte) : (byteBits b).length = 8 := by simp [byteBits]

/-- Mode, count and terminator take 16 bits, each character 8 (R134). -/
theorem length_payloadBits (chars : List Byte) : (payloadBits chars).length = 16 + 8 * chars.length := by
  have characters : (chars.flatMap byteBits).length = 8 * chars.length := by
    simp [List.length_flatMap, length_byteBits, mul_comm]
  simp only [payloadBits, List.length_append, modeIndicator, List.length_cons, List.length_nil, length_byteBits,
    characters, List.length_replicate]
  omega

/-- The bit string is longer than the data segment exactly above 32 characters (R135). -/
theorem payload_overflows_iff (chars : List Byte) :
    (payloadBits chars).length > 8 * Config.dcap ↔ chars.length > 32 := by
  rw [length_payloadBits]
  simp only [Config.dcap]
  omega

/-- The clamp leaves a remainder of 255 (R139). -/
theorem clampByte_ne_255 (b : Byte) : clampByte true b ≠ 255 := by
  intro h
  have hlt : b.toNat % 255 < 255 := Nat.mod_lt _ (by decide)
  have hval : (b.toNat % 255) % 256 = 255 := congrArg BitVec.toNat h
  omega

/-- Settles O59: the length is checked first, then 34 bytes are cut and clamped. -/
theorem payloadFillsTheDataSegmentOrFails : Obligations.PayloadFillsTheDataSegmentOrFails := by
  refine ⟨fun clamp chars h => ⟨_, if_neg (mt (payload_overflows_iff chars).mp (Nat.not_lt.mpr h)), ?_, ?_⟩,
    fun clamp chars h => if_pos ((payload_overflows_iff chars).mpr h)⟩
  · rw [List.length_map, List.length_range]
  · rintro rfl b hb
    obtain ⟨k, -, rfl⟩ := List.mem_map.mp hb
    exact clampByte_ne_255 _

end Sys2Proof.Proofs
end

section
/-! PROOFS. The source's shrinking array form of rsEncode (R97): after i steps its array holds the entries from i on
of the recurrence of R95, and it ends with ten of them. -/

namespace Sys2Proof.Proofs

open Sys2Proof.Machine Sys2Proof.Spec

/-- Settles O23: the length of rsEncode, for the empty sequence and for any other. -/
theorem ecLengthIsTenOrZero : Obligations.EcLengthIsTenOrZero :=
  ⟨rfl, fun d hd => by rw [length_rsEncode, if_neg (mt List.eq_nil_of_length_eq_zero hd)]⟩

/-! ### One step of the array form -/

theorem length_sourceStep (msg : List Byte) : (sourceStep msg).length = max msg.length 11 - 1 := by simp [sourceStep]

/-- A step XORs the generator in from the front and drops the leading term. -/
theorem getD_sourceStep (msg : List Byte) (k : Nat) :
    (sourceStep msg).getD k 0 = msg.getD (k + 1) 0 ^^^ rsTerm 11 0 (leadLog (msg.getD 0 0)) (k + 1) := by
  have lead : msg.headD 0 = msg.getD 0 0 := by cases msg <;> rfl
  by_cases hk : k + 1 < max msg.length 11
  · have inside : k < (sourceStep msg).length := by rw [length_sourceStep]; omega
    have generator : (0 ≤ k + 1 ∧ k + 1 < 0 + 11) ↔ k + 1 ≤ 10 := by omega
    rw [List.getD_eq_getElem _ _ inside]
    simp only [sourceStep, List.drop_one, List.getElem_tail, List.getElem_map, List.getElem_range, lead, leadLog,
      rsTerm, generator, Nat.sub_zero]
  · have past : rsTerm 11 0 (leadLog (msg.getD 0 0)) (k + 1) = 0#8 := if_neg (by omega)
    rw [past, List.getD_eq_default _ _ (by rw [length_sourceStep]; omega), List.getD_eq_default _ _ (by omega)]
    rfl

/-- A term of the recurrence depends on the distance from the step's entry only. -/
theorem rsTerm_add (n i l k : Nat) : rsTerm n i l (i + k) = rsTerm n 0 l k := by
  have : (i ≤ i + k ∧ i + k < i + n) ↔ (0 ≤ k ∧ k < 0 + n) := by omega
  simp only [rsTerm, this, Nat.add_sub_cancel_left, Nat.sub_zero]

/-! ### All steps -/

/-- An array that holds the entries from `i` on before step `i` holds those from `i + n` on before step `i + n`. -/
theorem getD_sourceSteps (d : List Byte) (n : Nat) : ∀ (i : Nat) (msg : List Byte),
    (∀ k, msg.getD k 0 = remaining d i (i + k)) →
    ∀ k, (sourceSteps n msg).getD k 0 = remaining d (i + n) (i + n + k) := by
  induction n with
  | zero => exact fun _ _ h => h
  | succ n ih =>
    intro i msg h k
    have shift : i + (n + 1) = i + 1 + n := by omega
    rw [sourceSteps, shift]
    refine ih (i + 1) _ (fun k => ?_) k
    rw [getD_sourceStep, h, h 0, Nat.add_zero i, remaining_succ, show i + 1 + k = i + (k + 1) by omega, rsTerm_add]

/-- Each step takes one entry off until ten are left. -/
theorem length_sourceSteps_succ (n : Nat) : ∀ msg : List Byte, msg.length ≤ n + 11 →
    (sourceSteps (n + 1) msg).length = 10 := by
  induction n with
  | zero =>
    intro msg h
    rw [sourceSteps, sourceSteps, length_sourceStep]
    omega
  | succ n ih =>
    intro msg h
    rw [sourceSteps]
    exact ih _ (by rw [length_sourceStep]; omega)

/-- Settles O22: both forms end with ten entries of the recurrence, those from N on. -/
theorem rsEncodeEqualsTheSourceForm : Obligations.RsEncodeEqualsTheSourceForm := by
  intro d
  cases d with
  | nil => rfl
  | cons b d =>
    have hlen : (sourceSteps (b :: d).length (b :: d)).length = 10 :=
      length_sourceSteps_succ d.length _ (by simp)
    refine List.ext_getElem (by rw [hlen, length_rsEncode, if_neg (by simp)]) fun j hj hj' => ?_
    rw [← List.getD_eq_getElem _ 0 hj, ← List.getD_eq_getElem _ 0 hj', getD_rsEncode (by simp) (by omega),
      getD_sourceSteps (b :: d) _ 0 _ (fun k => by rw [Nat.zero_add]; rfl), Nat.zero_add]

end Sys2Proof.Proofs
end

section
/-! PROOFS. The EC bytes complete a codeword (R99). Multiplication by a power of alpha is a power of one linear step,
so a polynomial's value at it is linear in the polynomial; a multiple of the generator, moved to any place of the
buffer, has the value 0 at alpha^0 to alpha^9. The obligation asks it at every integer power below 10, where it fails.
-/

namespace Sys2Proof.Proofs

open Sys2Proof.Machine Sys2Proof.Spec

/-! ### Multiplication by alpha -/

/-- Alpha times a field element, in bits: a shift, reduced by 285 when the top bit leaves (R83). -/
def alphaMul (x : Byte) : Byte := (x <<< 1) ^^^ (if x.msb then 0x1D else 0)

theorem alphaMul_xor (x y : Byte) : alphaMul (x ^^^ y) = alphaMul x ^^^ alphaMul y := by
  have reduction : ∀ a b : Bool, (if a ^^ b then (0x1D : Byte) else 0) =
      (if a then 0x1D else 0) ^^^ (if b then 0x1D else 0) := by decide
  simp only [alphaMul, BitVec.shiftLeft_xor_distrib, BitVec.msb_xor, reduction]
  ac_rfl

theorem alphaMul_iterate_xor (n : Nat) (x y : Byte) : alphaMul^[n] (x ^^^ y) = alphaMul^[n] x ^^^ alphaMul^[n] y := by
  induction n generalizing x y with
  | zero => rfl
  | succ n ih => rw [Function.iterate_succ_apply, alphaMul_xor, ih]; rfl

theorem alphaMul_iterate_zero (n : Nat) : alphaMul^[n] 0 = 0 := Function.iterate_fixed (by decide) n

theorem expEntry_succ_eq_alphaMul : ∀ i < 255, expEntry (i + 1) = alphaMul (expEntry i) := by decide +kernel

theorem gfExp_succ (n : Nat) : gfExp ((n + 1 : Nat) : Int) = alphaMul (gfExp (n : Int)) := by
  rw [gfExp_natCast, gfExp_natCast, ← expEntry_succ_eq_alphaMul _ (Nat.mod_lt _ (by decide))]
  by_cases hlast : n % 255 = 254
  · have hwrap : (n + 1) % 255 = 0 := by omega
    rw [hlast, hwrap]
    decide
  · congr 1
    omega

/-- The powers of alpha are the steps of `alphaMul` from 1. -/
theorem gfExp_eq_iterate (n : Nat) : gfExp (n : Int) = alphaMul^[n] 1 := by
  induction n with
  | zero => rfl
  | succ n ih => rw [Function.iterate_succ_apply', ← ih, gfExp_succ]

theorem gfExp_mod (n : Nat) : gfExp ((n % 255 : Nat) : Int) = gfExp (n : Int) := by
  rw [gfExp_natCast, gfExp_natCast, Nat.mod_mod]

theorem expEntry_ne_zero : ∀ i ≤ 254, expEntry i ≠ 0 := by decide +kernel

/-- Multiplication by a power of alpha is that many steps of `alphaMul`. -/
theorem gfMul_gfExp (x : Byte) (n : Nat) : gfMul x (gfExp (n : Int)) = alphaMul^[n] x := by
  have hle : n % 255 ≤ 254 := by omega
  have hne : gfExp (n : Int) ≠ 0 := gfExp_natCast n ▸ expEntry_ne_zero _ hle
  have hlog : (logEntry (gfExp (n : Int))).toNat = n % 255 := by rw [gfExp_natCast, logEntry_expEntry _ hle]
  by_cases hx : x = 0
  · rw [hx, alphaMul_iterate_zero]
    exact if_pos (.inl rfl)
  · have sum : gfMul x (gfExp (n : Int)) = gfExp ((n + (logEntry x).toNat : Nat) : Int) := by
      rw [gfMul, if_neg (not_or.mpr ⟨hx, hne⟩), hlog, ← gfExp_mod, ← gfExp_mod (n + _)]
      congr 2
      omega
    rw [sum, gfExp_eq_iterate, Function.iterate_add_apply, ← gfExp_eq_iterate, gfExp_logEntry hx]

/-! ### The value of a polynomial at a power of alpha -/

/-- The value at alpha^i of a polynomial, highest degree first, behind terms of value `acc`. -/
def valueFrom (i : Nat) (acc : Byte) (p : List Byte) : Byte := p.foldl (fun a b => alphaMul^[i] a ^^^ b) acc

theorem evalAt_gfExp (i : Nat) (p : List Byte) : evalAt (gfExp (i : Int)) p = valueFrom i 0 p := by
  simp only [evalAt, valueFrom, gfMul_gfExp]

theorem valueFrom_append (i : Nat) (acc : Byte) (p q : List Byte) :
    valueFrom i acc (p ++ q) = valueFrom i (valueFrom i acc p) q := List.foldl_append

theorem valueFrom_cons (i : Nat) (acc b : Byte) (p : List Byte) :
    valueFrom i acc (b :: p) = valueFrom i (alphaMul^[i] acc ^^^ b) p := rfl

/-- The value is linear in the polynomial. -/
theorem valueFrom_xor (i : Nat) (p : List Byte) : ∀ (q : List Byte) (a b : Byte), p.length = q.length →
    valueFrom i (a ^^^ b) (List.zipWith (· ^^^ ·) p q) = valueFrom i a p ^^^ valueFrom i b q := by
  induction p with
  | nil =>
    intro q a b h
    rw [List.length_eq_zero_iff.mp h.symm]
    rfl
  | cons x p ih =>
    intro q a b h
    obtain ⟨y, q, rfl⟩ := List.exists_cons_of_length_eq_add_one h.symm
    have regroup : alphaMul^[i] a ^^^ alphaMul^[i] b ^^^ (x ^^^ y) =
        (alphaMul^[i] a ^^^ x) ^^^ (alphaMul^[i] b ^^^ y) := by ac_rfl
    rw [List.zipWith_cons_cons, valueFrom_cons, valueFrom_cons, valueFrom_cons, alphaMul_iterate_xor, regroup,
      ih q _ _ (Nat.succ_inj.mp h)]

/-- A polynomial that is the sum of two, entry by entry, has the sum of their values. -/
theorem valueFrom_of_getD {i : Nat} {p q r : List Byte} (hp : p.length = r.length) (hq : q.length = r.length)
    (h : ∀ k < r.length, r.getD k 0 = p.getD k 0 ^^^ q.getD k 0) :
    valueFrom i 0 r = valueFrom i 0 p ^^^ valueFrom i 0 q := by
  have sum : r = List.zipWith (· ^^^ ·) p q := by
    refine List.ext_getElem (by simp [hp, hq]) fun k hk _ => ?_
    have hentry := h k hk
    rw [List.getD_eq_getElem _ _ hk, List.getD_eq_getElem _ _ (hp ▸ hk), List.getD_eq_getElem _ _ (hq ▸ hk)] at hentry
    rw [hentry, List.getElem_zipWith]
  rw [sum, ← valueFrom_xor i p q 0 0 (hp.trans hq.symm)]
  rfl

theorem valueFrom_zeros (i : Nat) {p : List Byte} (h : ∀ b ∈ p, b = 0) : valueFrom i 0 p = 0 := by
  induction p with
  | nil => rfl
  | cons b p ih =>
    have hb : alphaMul^[i] 0 ^^^ b = 0 := by rw [alphaMul_iterate_zero, h b List.mem_cons_self]; rfl
    rw [valueFrom_cons, hb, ih fun b hb => h b (List.mem_cons_of_mem _ hb)]

/-! ### The generator vanishes at its roots, in every place -/

/-- The generator times alpha^l, as R95's inner loop XORs it in. -/
def scaledGenerator (l : Nat) : List Byte := (List.range 11).map fun j => gfExp (((genEntry j).toNat + l : Nat) : Int)

/-- Multiplying every coefficient by alpha multiplies the value by alpha. -/
theorem valueFrom_map_iterate (i l : Nat) (acc : Byte) (p : List Byte) :
    valueFrom i (alphaMul^[l] acc) (p.map alphaMul^[l]) = alphaMul^[l] (valueFrom i acc p) := by
  induction p generalizing acc with
  | nil => rfl
  | cons b p ih =>
    rw [List.map_cons, valueFrom_cons, valueFrom_cons, ← ih, alphaMul_iterate_xor,
      (Function.Commute.refl alphaMul).iterate_iterate l i |>.eq]

theorem scaledGenerator_eq_map (l : Nat) : scaledGenerator l = (scaledGenerator 0).map alphaMul^[l] := by
  simp only [scaledGenerator, List.map_map]
  refine List.map_congr_left fun j _ => ?_
  rw [Function.comp_apply, gfExp_eq_iterate, gfExp_eq_iterate, ← Function.iterate_add_apply, Nat.add_comm]
  rfl

theorem valueFrom_generator : ∀ i < 10, valueFrom i 0 (scaledGenerator 0) = 0 := by decide +kernel

theorem valueFrom_scaledGenerator {i : Nat} (hi : i < 10) (l : Nat) : valueFrom i 0 (scaledGenerator l) = 0 := by
  have scaled := valueFrom_map_iterate i l 0 (scaledGenerator 0)
  rwa [alphaMul_iterate_zero, ← scaledGenerator_eq_map, valueFrom_generator i hi, alphaMul_iterate_zero] at scaled

/-- What the iteration from entry `place` with log `l` XORs into a buffer of `n` entries. -/
def rsTerms (place l n : Nat) : List Byte := (List.range n).map (rsTerm 11 place l)

@[simp] theorem length_rsTerms (place l n : Nat) : (rsTerms place l n).length = n := by simp [rsTerms]

theorem getD_rsTerms (place l : Nat) {n k : Nat} (hk : k < n) : (rsTerms place l n).getD k 0 = rsTerm 11 place l k := by
  rw [List.getD_eq_getElem _ _ ((length_rsTerms place l n).symm ▸ hk)]
  simp [rsTerms]

/-- These terms vanish at the roots: they are the generator between zeros. -/
theorem valueFrom_rsTerms {i : Nat} (hi : i < 10) (place l m : Nat) :
    valueFrom i 0 (rsTerms place l (place + 11 + m)) = 0 := by
  have before : valueFrom i 0 ((List.range place).map (rsTerm 11 place l)) = 0 := by
    refine valueFrom_zeros i fun b hb => ?_
    obtain ⟨k, hk, rfl⟩ := List.mem_map.mp hb
    exact if_neg (by have := List.mem_range.mp hk; omega)
  have middle : (List.range 11).map (fun k => rsTerm 11 place l (place + k)) = scaledGenerator l := by
    refine List.map_congr_left fun k hk => ?_
    rw [rsTerm_add]
    exact if_pos (by have := List.mem_range.mp hk; omega)
  have after : valueFrom i 0 ((List.range m).map fun k => rsTerm 11 place l (place + 11 + k)) = 0 := by
    refine valueFrom_zeros i fun b hb => ?_
    obtain ⟨k, -, rfl⟩ := List.mem_map.mp hb
    exact if_neg (by omega)
  rw [rsTerms, List.range_add, List.range_add, List.map_append, List.map_append, List.map_map, List.map_map,
    valueFrom_append, valueFrom_append, before]
  simp only [Function.comp_def, middle, valueFrom_scaledGenerator hi, after]

/-! ### The codeword -/

/-- An iteration inside the buffer keeps the buffer's value at the roots. -/
theorem valueFrom_rsIteration {i : Nat} (hi : i < 10) {r : List Byte} {place : Nat} (h : place + 11 ≤ r.length) :
    valueFrom i 0 (rsIteration r place) = valueFrom i 0 r := by
  obtain ⟨m, hm⟩ := Nat.exists_eq_add_of_le h
  have terms := valueFrom_rsTerms hi place (leadLog (r.getD place 0)) m
  rw [← hm] at terms
  rw [valueFrom_of_getD (p := r) (q := rsTerms place (leadLog (r.getD place 0)) r.length)
    (length_rsIteration r place).symm (by simp) fun k hk => ?_, terms]
  · exact BitVec.xor_zero
  · rw [length_rsIteration] at hk
    rw [getD_rsIteration hk, getD_rsTerms _ _ hk]

theorem valueFrom_bufferBefore {i : Nat} (hi : i < 10) (d : List Byte) : ∀ n ≤ d.length,
    valueFrom i 0 (bufferBefore d n) = valueFrom i 0 (bufferBefore d 0) := by
  intro n
  induction n with
  | zero => exact fun _ => rfl
  | succ n ih =>
    intro hn
    rw [bufferBefore_succ, valueFrom_rsIteration hi (by rw [length_bufferBefore]; omega), ih (by omega)]

/-- With no zero lead the iterations clear the entries they pass. -/
theorem bufferBefore_cleared {d : List Byte} (hlead : NoZeroLead d) : ∀ n ≤ d.length, ∀ k < n,
    (bufferBefore d n).getD k 0 = 0 := by
  intro n
  induction n with
  | zero => exact fun _ k hk => absurd hk k.not_lt_zero
  | succ n ih =>
    intro hn k hk
    rw [bufferBefore_succ]
    rcases Nat.lt_succ_iff_lt_or_eq.mp hk with hlt | rfl
    · have untouched : rsTerm 11 n (leadLog ((bufferBefore d n).getD n 0)) k = 0 := if_neg (by omega)
      rw [getD_rsIteration (by rw [length_bufferBefore]; omega), untouched, ih (by omega) k hlt]
      rfl
    · rw [getD_rsIteration_lead (by rw [length_bufferBefore]; omega), if_neg (hlead k hn)]

/-- The data followed by its EC bytes is the buffer before all iterations plus the buffer after them. -/
theorem getD_codeword {d : List Byte} (hlead : NoZeroLead d) (hd : 0 < d.length) {k : Nat} (hk : k < d.length + 10) :
    (d ++ rsEncode d).getD k 0 = (bufferBefore d 0).getD k 0 ^^^ (bufferBefore d d.length).getD k 0 := by
  rw [getD_bufferBefore d 0 (Nat.zero_le _) k hk]
  rcases Nat.lt_or_ge k d.length with h | h
  · rw [bufferBefore_cleared hlead _ le_rfl k h, List.getD_append _ _ _ _ h]
    exact BitVec.xor_zero.symm
  · obtain ⟨j, rfl⟩ := Nat.exists_eq_add_of_le h
    rw [List.getD_append_right _ _ _ _ h, Nat.add_sub_cancel_left, getD_rsEncode hd (by omega),
      getD_bufferBefore d _ le_rfl _ hk, remaining, List.getD_eq_default _ _ h]
    exact BitVec.zero_xor.symm

/-- R99 for the exponents it speaks of, 0 to 9: the iterations keep the buffer's value at the roots, so the two
buffers of which the codeword is the sum have the same value there. -/
theorem evalAt_codeword_eq_zero {d : List Byte} (hlead : NoZeroLead d) {i : Nat} (hi : i < 10) :
    evalAt (gfExp (i : Int)) (d ++ rsEncode d) = 0 := by
  rcases Nat.eq_zero_or_pos d.length with h | h
  · rw [List.length_eq_zero_iff.mp h]
    rfl
  · have hlen : (d ++ rsEncode d).length = d.length + 10 := by
      rw [List.length_append, length_rsEncode, if_neg h.ne']
    rw [evalAt_gfExp, valueFrom_of_getD (p := bufferBefore d 0) (q := bufferBefore d d.length)
      (by rw [hlen, length_bufferBefore]) (by rw [hlen, length_bufferBefore])
      (fun k hk => getD_codeword hlead h (hlen ▸ hk)), valueFrom_bufferBefore hi d _ le_rfl]
    exact BitVec.xor_self

theorem noZeroLead_one : NoZeroLead [1] := by
  unfold NoZeroLead
  decide

/-- Refutes O26: its `i` is an integer with no lower bound (the `(i : Int)` of the statement makes it one), so it also
speaks of alpha^(-1), which is no root of the generator. The codeword of [1] is the generator itself, with value 85
there. For the exponents 0 to 9 the claim holds: `evalAt_codeword_eq_zero`. -/
theorem not_ecBytesCompleteACodeword : ¬Obligations.EcBytesCompleteACodeword := by
  intro h
  have value : evalAt (gfExp (-1)) ([1] ++ rsEncode [1]) = 85 := by decide +kernel
  exact absurd (value.symm.trans (h [1] noZeroLead_one (-1) (by decide))) (by decide)

end Sys2Proof.Proofs
end

section
/-! PROOFS. The data cells (R127): with exactly the structural cells set, the traversal yields the other cells it
visits, one fixed list, and the loop gives the k-th of them the k-th bit. -/

namespace Sys2Proof.Proofs

open Sys2Proof.Machine Sys2Proof.Spec

/-! ### The cells the traversal yields -/

/-- A cell of one of the four structural sets (R116). -/
def isStructural (r c : Nat) : Bool := inFinder r c || inTiming r c || inAlign r c || inFormat r c

/-- The visited cells that are not structural, in visiting order. -/
def dataCells : List (Nat × Nat) := visitOrder.filter fun p => !isStructural p.1 p.2

/-- Exactly the structural cells of the matrix are set. -/
def StructuralSet (m : Grid) : Prop := ∀ r < 25, ∀ c < 25, (readCell m r c ≠ .unset ↔ isStructural r c = true)

theorem mapPairs_inside : ∀ p ∈ mapPairs, p.1 < 25 := by decide

/-- A pass of a column pair stays inside the matrix (R125). -/
theorem inside_of_mem_pairCells {p : Nat × Bool} (hp : p ∈ mapPairs) {q : Nat × Nat} (hq : q ∈ pairCells p) :
    q.1 < 25 ∧ q.2 < 25 := by
  obtain ⟨hrow, hcol⟩ := (mem_pairCells_iff p q.1 q.2).mp hq
  have hright := mapPairs_inside p hp
  refine ⟨?_, by omega⟩
  cases hup : p.2 <;> simpa [passRows, hup] using hrow

theorem inside_of_mem_visitOrder {q : Nat × Nat} (hq : q ∈ visitOrder) : q.1 < 25 ∧ q.2 < 25 := by
  rw [visitOrder, columnPairs_eq_mapPairs] at hq
  obtain ⟨p, hp, hqp⟩ := List.mem_flatMap.mp hq
  exact inside_of_mem_pairCells hp hqp

/-- The Unset test tells the data cells from the structural ones. -/
theorem unset_iff_not_structural {m : Grid} (h : StructuralSet m) {q : Nat × Nat} (hq : q.1 < 25 ∧ q.2 < 25) :
    decide (readCell m q.1 q.2 = .unset) = !isStructural q.1 q.2 := by
  have hset := h q.1 hq.1 q.2 hq.2
  cases hs : isStructural q.1 q.2 with
  | true => exact decide_eq_false (hset.mpr hs)
  | false => exact decide_eq_true (not_not.mp (mt hset.mp (Bool.eq_false_iff.mp hs)))

theorem yielded_eq_dataCells {m : Grid} (h : StructuralSet m) : yielded m = dataCells :=
  List.filter_congr fun _ hq => unset_iff_not_structural h (inside_of_mem_visitOrder hq)

/-- What a column pair yields does not depend on the matrix. -/
theorem countP_pairCells {m : Grid} (h : StructuralSet m) {p : Nat × Bool} (hp : p ∈ mapPairs) :
    ((pairCells p).countP fun q => decide (readCell m q.1 q.2 = .unset)) =
      (pairCells p).countP fun q => !isStructural q.1 q.2 :=
  List.countP_congr fun _ hq => by rw [unset_iff_not_structural h (inside_of_mem_pairCells hp hq)]

/-! ### The list of data cells -/

theorem length_dataCells : dataCells.length = 359 := by decide +kernel

theorem dataCells_per_pair : mapPairs.map (fun p => (pairCells p).countP fun q => !isStructural q.1 q.2) =
    [32, 32, 22, 22, 43, 48, 48, 48, 16, 16, 16, 16] := by decide +kernel

theorem dataCells_first : dataCells.take 8 =
    [(24, 24), (24, 23), (23, 24), (23, 23), (22, 24), (22, 23), (21, 24), (21, 23)] := by decide +kernel

theorem dataCells_last : dataCells.drop 352 =
    [(13, 0), (14, 1), (14, 0), (15, 1), (15, 0), (16, 1), (16, 0)] := by decide +kernel

/-! ### The loop -/

/-- The k-th cell the loop yields gets the k-th bit under the mask (R126). -/
theorem readCell_mapLoop_yielded (bit : Nat → Bool) (mask : Nat) (m : Grid) {k : Nat} (hk : k < (yielded m).length) :
    readCell (mapLoop bit mask visitOrder m 0).1 (yielded m)[k].1 (yielded m)[k].2 =
      cellOf (bit k ^^ maskFn mask (yielded m)[k].1 (yielded m)[k].2) := by
  have hmem : (yielded m)[k] ∈ yielded m := List.getElem_mem hk
  obtain ⟨hr, hc⟩ := inside_of_mem_visitOrder (List.mem_of_mem_filter hmem)
  have hidx : (yielded m).idxOf (yielded m)[k] = k := (nodup_visitOrder.filter _).idxOf_getElem k hk
  rw [readCell_mapLoop bit mask hr hc _ nodup_visitOrder, Prod.mk.eta, unsetCells_visitOrder, ← yielded_eq_mapOrder,
    if_pos hmem, hidx, Nat.zero_add]

/-- Settles O39: the yielded cells are the list of data cells, of which the figures are read off. -/
theorem traversalYieldsTheDataCells : Obligations.TraversalYieldsTheDataCells := by
  intro m h
  have cells : yielded m = dataCells := yielded_eq_dataCells h
  have hlen : (yielded m).length = 359 := cells ▸ length_dataCells
  refine ⟨fun bit mask => ⟨?_, fun k hk => ?_⟩, ?_, hlen, cells ▸ dataCells_first, cells ▸ dataCells_last⟩
  · rw [mapLoop_count _ _ _ nodup_visitOrder, unsetCells_visitOrder, ← yielded_eq_mapOrder, hlen]
  · rw [List.getD_eq_getElem _ _ (hlen ▸ hk)]
    exact readCell_mapLoop_yielded bit mask m (hlen ▸ hk)
  · have pairs : columnPairs 25 24 true = mapPairs := columnPairs_eq_mapPairs
    rw [pairs, ← dataCells_per_pair]
    exact List.map_congr_left fun p hp => countP_pairCells h hp

end Sys2Proof.Proofs
end
